-- ==== Sys2Proof/Word.lean ====
section
/-! DEFINITION. The machine's words: bytes, general-register words, vectors and masks (spec R8, R9). -/

namespace Sys2Proof

/-- A byte is 8 bits (R60). -/
abbrev Byte := BitVec 8

/-- The width of a general register, of RIP, RFLAGS and of a linear address (R20, R24, R25, R60). -/
abbrev Word := BitVec 64

/-- A vector register of MAXVL = 512 bits (R34). -/
abbrev Vec := BitVec 512

/-- A mask register of MAX_KL = 64 bits (R38). -/
abbrev Mask := BitVec 64

end Sys2Proof
end

