-- ==== Sys2Proof/Config.lean ====
section
/-! DEFINITION. The configuration record of R6, and the free values: values the spec leaves open for
each use. A free value is an opaque constant, so nothing can be proved of what it is. -/

namespace Sys2Proof

/-- The CPUID feature flags of R2, one name each (R41, R129). -/
inductive Feature
  | cldemote | gfni | avx | avx512f | avx512vl | movdiri | movdir64b | pconfig | waitpkg | vaes
  | vpclmulqdq | avx512Vbmi2 | avx512Vnni | avx512Bitalg | avx512Vpopcntdq | wbnoinvd
  deriving DecidableEq, Repr

/-- MAXVL (R6): the width of a vector register, one of three. -/
inductive MaxVl
  | v128 | v256 | v512
  deriving DecidableEq, Repr

/-- The width in bits. -/
def MaxVl.bits : MaxVl → Nat
  | .v128 => 128
  | .v256 => 256
  | .v512 => 512

/-- The implementation parameters of R6 that are plain values. VALID_COMMANDS is {0,1,2,3} by the source;
MONITOR_RANGE and OPT_STATE_EXIT_EVENTS are the free values `Config.monitorCovers` and
`Config.optionalWake`. -/
structure Params where
  /-- `F.<flag>`: the flags that are enumerated as 1. -/
  features : List Feature
  /-- MAXVL. -/
  maxvl : MaxVl
  /-- MAX_KL. -/
  maxKl : Nat
  /-- LA_BITS. -/
  laBits : Nat
  /-- CACHE_LINE_BYTES as a power of 2. -/
  cacheLineShift : Nat
  /-- PCONFIG_TARGETS, informational (R181). -/
  pconfigTargets : List Nat
  hasVmx : Bool
  hasTsx : Bool
  /-- HAS_SMT, of which no rule in scope asks (log 6). -/
  hasSmt : Bool
  /-- CLDEMOTE_SETS_A, not observable here (R6). -/
  cldemoteSetsA : Bool
  cldemoteAbortsTsx : Bool
  pconfigEntropyReleasesLock : Bool
  gf2p8mulbFaultSuppression : Bool
  deriving DecidableEq, Repr

/-- CACHE_LINE_BYTES, a power of two (R6). -/
def Params.cacheLineBytes (p : Params) : Nat := 2 ^ p.cacheLineShift

/-- Whether a flag is one that only EVEX forms ask for, of which every EVEX form has one (R129). -/
def Feature.isEvex : Feature → Bool
  | .avx512f | .avx512vl | .avx512Vbmi2 | .avx512Vnni | .avx512Bitalg | .avx512Vpopcntdq => true
  | .cldemote | .gfni | .avx | .movdiri | .movdir64b | .pconfig | .waitpkg | .vaes | .vpclmulqdq
  | .wbnoinvd => false

/-- MAXVL is 512 and MAX_KL is 64, as they are "whenever an EVEX row is usable" (R6). -/
def Params.evexWidths (p : Params) : Bool := p.maxvl = .v512 && p.maxKl = 64

/-- Whether a flag counts as 1: it is enumerated (R6, R41), and a flag of the EVEX forms only with the
register widths that R6 gives where one is usable. -/
def Params.has (p : Params) (f : Feature) : Bool :=
  p.features.contains f && (!f.isEvex || p.evexWidths)

/-- DESIGN CHOICE (safe, log 7): how far TSC moves at the `n`-th draw; the source gives no rate (R48). -/
opaque Config.elapsed : Nat → BitVec 64

/-- DESIGN CHOICE (safe, log 8): the `n`-th draw of the hardware random number generator, a 128-bit
value or, as `none`, "NOT ENOUGH ENTROPY" (R53, R190). -/
opaque Config.entropy : Nat → Option (BitVec 128)

/-- DESIGN CHOICE (safe, log 9): whether an implementation-dependent event ends a TPAUSE or UMWAIT
wait at the `n`-th draw (OPT_STATE_EXIT_EVENTS of R6, R206 item 6, R210). -/
opaque Config.optionalWake : Nat → Bool

/-- DESIGN CHOICE (safe, log 10): whether MONITOR_RANGE of the first address holds the second (R6,
R201). The address itself is always in its range; that part is not left to this constant. -/
opaque Config.monitorCovers : BitVec 64 → BitVec 64 → Bool

/-- DESIGN CHOICE (safe, log 11): whether a store to the monitored range in memory that is not
write-back triggers the monitor at the `n`-th draw (R70, R201). -/
opaque Config.nonWbTriggers : Nat → Bool

/-- DESIGN CHOICE (safe, log 33): whether CLDEMOTE aborts the transaction it is in, at the `n`-th draw, on
an implementation where it may (R140, R342). -/
opaque Config.cldemoteAborts : Nat → Bool

/-- DESIGN CHOICE (safe, log 21): which of the values that a byte of memory holds during an instruction a
load at the `n`-th draw finds at an address: an earlier one by its number, or the last (R71). -/
opaque Config.tornByte : Nat → Nat → Nat

/-- DESIGN CHOICE (safe, log 12): bits 63:32 of a general register after a 32-bit write outside
64-bit mode at the `n`-th draw, "not specified" (R22). -/
opaque Config.upperHalf : Nat → BitVec 32

end Sys2Proof
end

