-- ==== Sys2Proof/Syntax.lean ====
section
/-! DEFINITION. What an instruction is: its operands and the one inductive `Instr`, one constructor per
row of spec/opcode_table.json (R124, R125, R126). Encodings are read and written in Decode.lean. -/

namespace Sys2Proof

/-- The five operating modes (R31). -/
inductive Mode
  | real | v86 | prot | compat | bits64
  deriving DecidableEq, Repr

/-- Address sizes (R61, R100). -/
inductive ASize
  | a16 | a32 | a64
  deriving DecidableEq, Repr

/-- Segment registers (R28); their encoded numbers are in R93. -/
inductive SegReg
  | es | cs | ss | ds | fs | gs
  deriving DecidableEq, Repr

/-- A byte that may stand before the opcode (R91). `deadRex` is a REX byte that another such byte
follows: it is ignored (R95) but counts in the length. -/
inductive Prefix
  | lock | repne | rep | osize | asize
  | seg (r : SegReg)
  | deadRex
  deriving DecidableEq, Repr

/-- What stands before the opcode, VEX or EVEX bytes: the bytes in order, and whether a REX byte
stands directly before them (R90, R95). The R, X, B and W bits of that REX are in the register numbers
and in the constructor. -/
structure Pfx where
  bytes : List Prefix
  rex : Bool
  deriving DecidableEq, Repr

/-- A displacement as encoded (R99); an 8-bit one is scaled when the address is computed (R122). -/
inductive Disp
  | none
  | d8 (v : BitVec 8)
  | d16 (v : BitVec 16)
  | d32 (v : BitVec 32)
  deriving DecidableEq, Repr

/-- A memory operand (R97 to R103). Register numbers are 4 bits, extension bit first (R108, R119). -/
inductive Mem
  /-- 16-bit addressing with the base pair `rm` of R102. -/
  | a16 (rm : BitVec 3) (d : Disp)
  /-- 16-bit addressing, `mod` = 00 and `rm` = 110: the displacement alone (R102). -/
  | abs16 (v : BitVec 16)
  /-- `mod` = 00 and `rm` = 101: relative to the next instruction in 64-bit mode, else the
  displacement alone (R101, R103). -/
  | rel (v : BitVec 32)
  /-- A base register and a displacement (R101). -/
  | base (b : BitVec 4) (d : Disp)
  /-- SIB with a base; index number 4 means no index (R98, R101). -/
  | sib (scale : BitVec 2) (index base : BitVec 4) (d : Disp)
  /-- SIB with `base` = 101 and `mod` = 00: no base, a 32-bit displacement (R101). -/
  | sibAbs (scale : BitVec 2) (index : BitVec 4) (v : BitVec 32)
  deriving DecidableEq, Repr

/-- The `ModRM:r/m` operand: a register (general or vector, by the instruction) or memory (R97). -/
inductive Rm
  | reg (r : BitVec 5)
  | mem (m : Mem)
  deriving DecidableEq, Repr

/-- Vector lengths (R112, R118). -/
inductive VL
  | v128 | v256 | v512
  deriving DecidableEq, Repr

/-- Operands of a VEX-encoded instruction (R113): `ModRM:reg`, `VEX.vvvv`, `ModRM:r/m`. -/
structure VexOps where
  pfx : Pfx
  reg : BitVec 4
  vvvv : BitVec 4
  rm : Rm
  deriving DecidableEq, Repr

/-- Operands of an EVEX-encoded instruction (R119 to R121); `ρ` is what its `ModRM:r/m` may be. `vvvv`
is the complemented field `V':vvvv`. -/
structure EvexOps (ρ : Type) where
  pfx : Pfx
  reg : BitVec 5
  vvvv : BitVec 5
  rm : ρ
  aaa : BitVec 3
  z : Bool
  b : Bool
  deriving DecidableEq, Repr

/-! Encoding rows as data: the columns of R124, R125 and R126. -/

/-- What `ModRM.mod` may be (R106). -/
inductive RmForm
  | any | mem | reg
  deriving DecidableEq, Repr

/-- Which of the bytes 66, F3, F2 a legacy opcode takes (R94): none; none, but 66 is #UD; any, each being
#UD; or exactly the named one. -/
inductive Mand
  | np | npBut66 | free | p66 | pF3 | pF2
  deriving DecidableEq, Repr

/-- Masking column of R126: `{k1}{z}`, `{k1}` on a memory destination, `k1{k2}`, none. -/
inductive Masking
  | kz | k | kk | none
  deriving DecidableEq, Repr

/-- Tuple column of R126, which fixes the scale of an 8-bit displacement (R122). -/
inductive Tuple
  | full | fullMem | scalar
  deriving DecidableEq, Repr

/-- Memory fault suppression: class E4, class E4NF, or by GF2P8MULB_FAULT_SUPPRESSION (R320 to R322, R161). -/
inductive Suppress
  | always | never | byParam
  deriving DecidableEq, Repr

/-- A legacy row. `opc` holds the opcode bytes, `digit` the required `ModRM.reg`, `rm` is absent when
there is no ModRM byte, `w` is the required REX.W. -/
structure LegacyRow where
  opc : List Byte
  digit : Option (BitVec 3)
  rm : Option RmForm
  mand : Mand
  w : Option Bool
  imm : Bool
  deriving DecidableEq, Repr

/-- A VEX row; every one has `pp` = 66 and uses `vvvv` (R111). `w` is absent for WIG. -/
structure VexRow where
  map : BitVec 5
  op : Byte
  w : Option Bool
  imm : Bool
  feats : List Feature
  deriving DecidableEq, Repr

/-- An EVEX row for its three lengths; every one has `pp` = 66. `bcst` is the bytes of a broadcast
element (0: no broadcast), `elem` the bytes of a masked element, `needsF` says that the 512-bit row
lists AVX512F (R129). -/
structure EvexRow where
  map : BitVec 2
  op : Byte
  w : Option Bool
  rm : RmForm
  usesV : Bool
  masking : Masking
  bcst : Nat
  tuple : Tuple
  elem : Nat
  suppress : Suppress
  imm : Bool
  needsF : Bool
  feats : List Feature
  deriving DecidableEq, Repr

/-- The legacy rows of R124. -/
inductive LOp
  | cldemote | gf2p8affineinvqb | gf2p8affineqb | gf2p8mulb
  | movdiri32 | movdiri64 | movdir64b | pconfig | tpause | umonitor | umwait | wbnoinvd
  deriving DecidableEq, Repr

/-- The VEX mnemonics of R125. -/
inductive VOp
  | vgf2p8affineinvqb | vgf2p8affineqb | vgf2p8mulb
  | vaesdec | vaesdeclast | vaesenc | vaesenclast | vpclmulqdq
  deriving DecidableEq, Repr

/-- The EVEX mnemonics of R126 with one row per length. -/
inductive EOp
  | vgf2p8affineinvqb | vgf2p8affineqb | vgf2p8mulb | vaesdec | vaesdeclast | vaesenc
  | vaesenclast | vpclmulqdq | vpdpbusd | vpdpbusds | vpdpwssd | vpdpwssds
  | vpopcntb | vpopcntw | vpopcntd | vpopcntq | vpshldw | vpshldd
  | vpshldq | vpshldvw | vpshldvd | vpshldvq | vpshrdw | vpshrdd
  | vpshrdq | vpshrdvw | vpshrdvd | vpshrdvq | vpshufbitqmb
  deriving DecidableEq, Repr

/-- The EVEX mnemonics of R126 with a memory row and a register row per length (R250). -/
inductive POp
  | vpcompressb | vpcompressw | vpexpandb | vpexpandw
  deriving DecidableEq, Repr

/-- What decoding a byte string can end in other than an instruction. -/
inductive DecErr
  /-- The bytes run out: with the 15 bytes that are fetched, the instruction is longer than 15 bytes (R90). -/
  | short
  /-- A field of the EVEX bytes that is #UD (R115 to R119, R133), with the number of bytes left after the
  instruction. -/
  | ud (left : Nat)
  /-- Not one of the 134 rows (R131). -/
  | outside
  /-- EVEX extension bits outside 64-bit mode (R119, D2; log 24). -/
  | evexExt
  deriving DecidableEq, Repr

/-- The instructions in scope: one constructor per row of spec/opcode_table.json, named by its mnemonic
and, where one mnemonic has several rows, by its format, vector length or operand. -/
inductive Instr
  | cldemote (pfx : Pfx) (m : Mem)
  | gf2p8affineinvqb (pfx : Pfx) (reg : BitVec 4) (rm : Rm) (imm : Byte)
  | gf2p8affineqb (pfx : Pfx) (reg : BitVec 4) (rm : Rm) (imm : Byte)
  | gf2p8mulb (pfx : Pfx) (reg : BitVec 4) (rm : Rm)
  | movdiri32 (pfx : Pfx) (m : Mem) (reg : BitVec 4)
  | movdiri64 (pfx : Pfx) (m : Mem) (reg : BitVec 4)
  | movdir64b (pfx : Pfx) (reg : BitVec 4) (m : Mem)
  | pconfig (pfx : Pfx)
  | tpause (pfx : Pfx) (rm : Rm)
  | umonitor (pfx : Pfx) (rm : Rm)
  | umwait (pfx : Pfx) (rm : Rm)
  | wbnoinvd (pfx : Pfx)
  | vgf2p8affineinvqbVex128 (o : VexOps) (imm : Byte)
  | vgf2p8affineinvqbVex256 (o : VexOps) (imm : Byte)
  | vgf2p8affineqbVex128 (o : VexOps) (imm : Byte)
  | vgf2p8affineqbVex256 (o : VexOps) (imm : Byte)
  | vgf2p8mulbVex128 (o : VexOps)
  | vgf2p8mulbVex256 (o : VexOps)
  | vaesdecVex256 (o : VexOps)
  | vaesdeclastVex256 (o : VexOps)
  | vaesencVex256 (o : VexOps)
  | vaesenclastVex256 (o : VexOps)
  | vpclmulqdqVex256 (o : VexOps) (imm : Byte)
  | vgf2p8affineinvqbEvex128 (o : EvexOps Rm) (imm : Byte)
  | vgf2p8affineinvqbEvex256 (o : EvexOps Rm) (imm : Byte)
  | vgf2p8affineinvqbEvex512 (o : EvexOps Rm) (imm : Byte)
  | vgf2p8affineqbEvex128 (o : EvexOps Rm) (imm : Byte)
  | vgf2p8affineqbEvex256 (o : EvexOps Rm) (imm : Byte)
  | vgf2p8affineqbEvex512 (o : EvexOps Rm) (imm : Byte)
  | vgf2p8mulbEvex128 (o : EvexOps Rm)
  | vgf2p8mulbEvex256 (o : EvexOps Rm)
  | vgf2p8mulbEvex512 (o : EvexOps Rm)
  | vaesdecEvex128 (o : EvexOps Rm)
  | vaesdecEvex256 (o : EvexOps Rm)
  | vaesdecEvex512 (o : EvexOps Rm)
  | vaesdeclastEvex128 (o : EvexOps Rm)
  | vaesdeclastEvex256 (o : EvexOps Rm)
  | vaesdeclastEvex512 (o : EvexOps Rm)
  | vaesencEvex128 (o : EvexOps Rm)
  | vaesencEvex256 (o : EvexOps Rm)
  | vaesencEvex512 (o : EvexOps Rm)
  | vaesenclastEvex128 (o : EvexOps Rm)
  | vaesenclastEvex256 (o : EvexOps Rm)
  | vaesenclastEvex512 (o : EvexOps Rm)
  | vpclmulqdqEvex128 (o : EvexOps Rm) (imm : Byte)
  | vpclmulqdqEvex256 (o : EvexOps Rm) (imm : Byte)
  | vpclmulqdqEvex512 (o : EvexOps Rm) (imm : Byte)
  | vpdpbusd128 (o : EvexOps Rm)
  | vpdpbusd256 (o : EvexOps Rm)
  | vpdpbusd512 (o : EvexOps Rm)
  | vpdpbusds128 (o : EvexOps Rm)
  | vpdpbusds256 (o : EvexOps Rm)
  | vpdpbusds512 (o : EvexOps Rm)
  | vpdpwssd128 (o : EvexOps Rm)
  | vpdpwssd256 (o : EvexOps Rm)
  | vpdpwssd512 (o : EvexOps Rm)
  | vpdpwssds128 (o : EvexOps Rm)
  | vpdpwssds256 (o : EvexOps Rm)
  | vpdpwssds512 (o : EvexOps Rm)
  | vpopcntb128 (o : EvexOps Rm)
  | vpopcntb256 (o : EvexOps Rm)
  | vpopcntb512 (o : EvexOps Rm)
  | vpopcntw128 (o : EvexOps Rm)
  | vpopcntw256 (o : EvexOps Rm)
  | vpopcntw512 (o : EvexOps Rm)
  | vpopcntd128 (o : EvexOps Rm)
  | vpopcntd256 (o : EvexOps Rm)
  | vpopcntd512 (o : EvexOps Rm)
  | vpopcntq128 (o : EvexOps Rm)
  | vpopcntq256 (o : EvexOps Rm)
  | vpopcntq512 (o : EvexOps Rm)
  | vpshldw128 (o : EvexOps Rm) (imm : Byte)
  | vpshldw256 (o : EvexOps Rm) (imm : Byte)
  | vpshldw512 (o : EvexOps Rm) (imm : Byte)
  | vpshldd128 (o : EvexOps Rm) (imm : Byte)
  | vpshldd256 (o : EvexOps Rm) (imm : Byte)
  | vpshldd512 (o : EvexOps Rm) (imm : Byte)
  | vpshldq128 (o : EvexOps Rm) (imm : Byte)
  | vpshldq256 (o : EvexOps Rm) (imm : Byte)
  | vpshldq512 (o : EvexOps Rm) (imm : Byte)
  | vpshldvw128 (o : EvexOps Rm)
  | vpshldvw256 (o : EvexOps Rm)
  | vpshldvw512 (o : EvexOps Rm)
  | vpshldvd128 (o : EvexOps Rm)
  | vpshldvd256 (o : EvexOps Rm)
  | vpshldvd512 (o : EvexOps Rm)
  | vpshldvq128 (o : EvexOps Rm)
  | vpshldvq256 (o : EvexOps Rm)
  | vpshldvq512 (o : EvexOps Rm)
  | vpshrdw128 (o : EvexOps Rm) (imm : Byte)
  | vpshrdw256 (o : EvexOps Rm) (imm : Byte)
  | vpshrdw512 (o : EvexOps Rm) (imm : Byte)
  | vpshrdd128 (o : EvexOps Rm) (imm : Byte)
  | vpshrdd256 (o : EvexOps Rm) (imm : Byte)
  | vpshrdd512 (o : EvexOps Rm) (imm : Byte)
  | vpshrdq128 (o : EvexOps Rm) (imm : Byte)
  | vpshrdq256 (o : EvexOps Rm) (imm : Byte)
  | vpshrdq512 (o : EvexOps Rm) (imm : Byte)
  | vpshrdvw128 (o : EvexOps Rm)
  | vpshrdvw256 (o : EvexOps Rm)
  | vpshrdvw512 (o : EvexOps Rm)
  | vpshrdvd128 (o : EvexOps Rm)
  | vpshrdvd256 (o : EvexOps Rm)
  | vpshrdvd512 (o : EvexOps Rm)
  | vpshrdvq128 (o : EvexOps Rm)
  | vpshrdvq256 (o : EvexOps Rm)
  | vpshrdvq512 (o : EvexOps Rm)
  | vpshufbitqmb128 (o : EvexOps Rm)
  | vpshufbitqmb256 (o : EvexOps Rm)
  | vpshufbitqmb512 (o : EvexOps Rm)
  | vpcompressb128m (o : EvexOps Mem)
  | vpcompressb128r (o : EvexOps (BitVec 5))
  | vpcompressb256m (o : EvexOps Mem)
  | vpcompressb256r (o : EvexOps (BitVec 5))
  | vpcompressb512m (o : EvexOps Mem)
  | vpcompressb512r (o : EvexOps (BitVec 5))
  | vpcompressw128m (o : EvexOps Mem)
  | vpcompressw128r (o : EvexOps (BitVec 5))
  | vpcompressw256m (o : EvexOps Mem)
  | vpcompressw256r (o : EvexOps (BitVec 5))
  | vpcompressw512m (o : EvexOps Mem)
  | vpcompressw512r (o : EvexOps (BitVec 5))
  | vpexpandb128m (o : EvexOps Mem)
  | vpexpandb128r (o : EvexOps (BitVec 5))
  | vpexpandb256m (o : EvexOps Mem)
  | vpexpandb256r (o : EvexOps (BitVec 5))
  | vpexpandb512m (o : EvexOps Mem)
  | vpexpandb512r (o : EvexOps (BitVec 5))
  | vpexpandw128m (o : EvexOps Mem)
  | vpexpandw128r (o : EvexOps (BitVec 5))
  | vpexpandw256m (o : EvexOps Mem)
  | vpexpandw256r (o : EvexOps (BitVec 5))
  | vpexpandw512m (o : EvexOps Mem)
  | vpexpandw512r (o : EvexOps (BitVec 5))
  deriving DecidableEq, Repr

end Sys2Proof
end

