-- ==== Sys2Proof/Decode.lean ====
section
/-! DEFINITION. Reading an instruction from bytes (R90 to R131) and, after it, writing one (`encode`),
both from the same rows. Decoding refuses by name what is not one of the 134 rows. -/

namespace Sys2Proof

/-! ## Names of the rows -/

/-- The legacy rows (R124, R94, R106). -/
def LOp.row : LOp → LegacyRow
  | .cldemote => ⟨[0x0F, 0x1C], some 0, some .mem, .np, none, false⟩
  | .gf2p8affineinvqb => ⟨[0x0F, 0x3A, 0xCF], none, some .any, .p66, none, true⟩
  | .gf2p8affineqb => ⟨[0x0F, 0x3A, 0xCE], none, some .any, .p66, none, true⟩
  | .gf2p8mulb => ⟨[0x0F, 0x38, 0xCF], none, some .any, .p66, none, false⟩
  | .movdiri32 => ⟨[0x0F, 0x38, 0xF9], none, some .mem, .npBut66, some false, false⟩
  | .movdiri64 => ⟨[0x0F, 0x38, 0xF9], none, some .mem, .npBut66, some true, false⟩
  | .movdir64b => ⟨[0x0F, 0x38, 0xF8], none, some .mem, .p66, none, false⟩
  | .pconfig => ⟨[0x0F, 0x01, 0xC5], none, none, .free, none, false⟩
  | .tpause => ⟨[0x0F, 0xAE], some 6, some .any, .p66, none, false⟩
  | .umonitor => ⟨[0x0F, 0xAE], some 6, some .any, .pF3, none, false⟩
  | .umwait => ⟨[0x0F, 0xAE], some 6, some .any, .pF2, none, false⟩
  | .wbnoinvd => ⟨[0x0F, 0x09], none, none, .pF3, none, false⟩

/-- Every legacy row. -/
def LOp.all : List LOp :=
  [.cldemote, .gf2p8affineinvqb, .gf2p8affineqb, .gf2p8mulb, .movdiri32, .movdiri64,
   .movdir64b, .pconfig, .tpause, .umonitor, .umwait, .wbnoinvd]

/-- The VEX rows (R125); the flags are those of R129. -/
def VOp.row : VOp → VexRow
  | .vgf2p8affineinvqb => ⟨3, 0xCF, some true, true, [.avx, .gfni]⟩
  | .vgf2p8affineqb => ⟨3, 0xCE, some true, true, [.avx, .gfni]⟩
  | .vgf2p8mulb => ⟨2, 0xCF, some false, false, [.avx, .gfni]⟩
  | .vaesdec => ⟨2, 0xDE, none, false, [.vaes]⟩
  | .vaesdeclast => ⟨2, 0xDF, none, false, [.vaes]⟩
  | .vaesenc => ⟨2, 0xDC, none, false, [.vaes]⟩
  | .vaesenclast => ⟨2, 0xDD, none, false, [.vaes]⟩
  | .vpclmulqdq => ⟨3, 0x44, none, true, [.vpclmulqdq]⟩

/-- Every VEX mnemonic. -/
def VOp.all : List VOp :=
  [.vgf2p8affineinvqb, .vgf2p8affineqb, .vgf2p8mulb, .vaesdec,
   .vaesdeclast, .vaesenc, .vaesenclast, .vpclmulqdq]

/-- The EVEX rows with any `ModRM:r/m` (R126). -/
def EOp.row : EOp → EvexRow
  | .vgf2p8affineinvqb =>
    ⟨3, 0xCF, some true, .any, true, .kz, 8, .full, 1, .never, true, true, [.gfni]⟩
  | .vgf2p8affineqb =>
    ⟨3, 0xCE, some true, .any, true, .kz, 8, .full, 1, .never, true, true, [.gfni]⟩
  | .vgf2p8mulb =>
    ⟨2, 0xCF, some false, .any, true, .kz, 0, .fullMem, 1, .byParam, false, true, [.gfni]⟩
  | .vaesdec =>
    ⟨2, 0xDE, none, .any, true, .none, 0, .fullMem, 16, .never, false, true, [.vaes]⟩
  | .vaesdeclast =>
    ⟨2, 0xDF, none, .any, true, .none, 0, .fullMem, 16, .never, false, true, [.vaes]⟩
  | .vaesenc =>
    ⟨2, 0xDC, none, .any, true, .none, 0, .fullMem, 16, .never, false, true, [.vaes]⟩
  | .vaesenclast =>
    ⟨2, 0xDD, none, .any, true, .none, 0, .fullMem, 16, .never, false, true, [.vaes]⟩
  | .vpclmulqdq =>
    ⟨3, 0x44, none, .any, true, .none, 0, .fullMem, 16, .never, true, true, [.vpclmulqdq]⟩
  | .vpdpbusd =>
    ⟨2, 0x50, some false, .any, true, .kz, 4, .full, 4, .always, false, false, [.avx512Vnni]⟩
  | .vpdpbusds =>
    ⟨2, 0x51, some false, .any, true, .kz, 4, .full, 4, .always, false, false, [.avx512Vnni]⟩
  | .vpdpwssd =>
    ⟨2, 0x52, some false, .any, true, .kz, 4, .full, 4, .always, false, false, [.avx512Vnni]⟩
  | .vpdpwssds =>
    ⟨2, 0x53, some false, .any, true, .kz, 4, .full, 4, .always, false, false, [.avx512Vnni]⟩
  | .vpopcntb =>
    ⟨2, 0x54, some false, .any, false, .kz, 0, .fullMem, 1, .always, false, false, [.avx512Bitalg]⟩
  | .vpopcntw =>
    ⟨2, 0x54, some true, .any, false, .kz, 0, .fullMem, 2, .always, false, false, [.avx512Bitalg]⟩
  | .vpopcntd =>
    ⟨2, 0x55, some false, .any, false, .kz, 4, .full, 4, .always, false, false, [.avx512Vpopcntdq]⟩
  | .vpopcntq =>
    ⟨2, 0x55, some true, .any, false, .kz, 8, .full, 8, .always, false, false, [.avx512Vpopcntdq]⟩
  | .vpshldw =>
    ⟨3, 0x70, some true, .any, true, .kz, 0, .fullMem, 2, .always, true, false, [.avx512Vbmi2]⟩
  | .vpshldd =>
    ⟨3, 0x71, some false, .any, true, .kz, 4, .full, 4, .always, true, false, [.avx512Vbmi2]⟩
  | .vpshldq =>
    ⟨3, 0x71, some true, .any, true, .kz, 8, .full, 8, .always, true, false, [.avx512Vbmi2]⟩
  | .vpshldvw =>
    ⟨2, 0x70, some true, .any, true, .kz, 0, .fullMem, 2, .always, false, false, [.avx512Vbmi2]⟩
  | .vpshldvd =>
    ⟨2, 0x71, some false, .any, true, .kz, 4, .full, 4, .always, false, false, [.avx512Vbmi2]⟩
  | .vpshldvq =>
    ⟨2, 0x71, some true, .any, true, .kz, 8, .full, 8, .always, false, false, [.avx512Vbmi2]⟩
  | .vpshrdw =>
    ⟨3, 0x72, some true, .any, true, .kz, 0, .fullMem, 2, .always, true, false, [.avx512Vbmi2]⟩
  | .vpshrdd =>
    ⟨3, 0x73, some false, .any, true, .kz, 4, .full, 4, .always, true, false, [.avx512Vbmi2]⟩
  | .vpshrdq =>
    ⟨3, 0x73, some true, .any, true, .kz, 8, .full, 8, .always, true, false, [.avx512Vbmi2]⟩
  | .vpshrdvw =>
    ⟨2, 0x72, some true, .any, true, .kz, 0, .fullMem, 2, .always, false, false, [.avx512Vbmi2]⟩
  | .vpshrdvd =>
    ⟨2, 0x73, some false, .any, true, .kz, 4, .full, 4, .always, false, false, [.avx512Vbmi2]⟩
  | .vpshrdvq =>
    ⟨2, 0x73, some true, .any, true, .kz, 8, .full, 8, .always, false, false, [.avx512Vbmi2]⟩
  | .vpshufbitqmb =>
    ⟨2, 0x8F, some false, .any, true, .kk, 0, .fullMem, 1, .always, false, false, [.avx512Bitalg]⟩

/-- Every EVEX mnemonic of `EOp`. -/
def EOp.all : List EOp :=
  [.vgf2p8affineinvqb, .vgf2p8affineqb, .vgf2p8mulb, .vaesdec, .vaesdeclast,
   .vaesenc, .vaesenclast, .vpclmulqdq, .vpdpbusd, .vpdpbusds,
   .vpdpwssd, .vpdpwssds, .vpopcntb, .vpopcntw, .vpopcntd,
   .vpopcntq, .vpshldw, .vpshldd, .vpshldq, .vpshldvw,
   .vpshldvd, .vpshldvq, .vpshrdw, .vpshrdd, .vpshrdq,
   .vpshrdvw, .vpshrdvd, .vpshrdvq, .vpshufbitqmb]

/-- The EVEX rows with a memory operand of VPCOMPRESS and VPEXPAND (R126, R250). -/
def POp.memRow : POp → EvexRow
  | .vpcompressb =>
    ⟨2, 0x63, some false, .mem, false, .k, 0, .scalar, 1, .always, false, false, [.avx512Vbmi2]⟩
  | .vpcompressw =>
    ⟨2, 0x63, some true, .mem, false, .k, 0, .scalar, 2, .always, false, false, [.avx512Vbmi2]⟩
  | .vpexpandb =>
    ⟨2, 0x62, some false, .mem, false, .kz, 0, .scalar, 1, .always, false, false, [.avx512Vbmi2]⟩
  | .vpexpandw =>
    ⟨2, 0x62, some true, .mem, false, .kz, 0, .scalar, 2, .always, false, false, [.avx512Vbmi2]⟩

/-- The EVEX rows with a register operand of VPCOMPRESS and VPEXPAND (R126, R250). -/
def POp.regRow : POp → EvexRow
  | .vpcompressb =>
    ⟨2, 0x63, some false, .reg, false, .kz, 0, .scalar, 1, .always, false, false, [.avx512Vbmi2]⟩
  | .vpcompressw =>
    ⟨2, 0x63, some true, .reg, false, .kz, 0, .scalar, 2, .always, false, false, [.avx512Vbmi2]⟩
  | .vpexpandb =>
    ⟨2, 0x62, some false, .reg, false, .kz, 0, .scalar, 1, .always, false, false, [.avx512Vbmi2]⟩
  | .vpexpandw =>
    ⟨2, 0x62, some true, .reg, false, .kz, 0, .scalar, 2, .always, false, false, [.avx512Vbmi2]⟩

/-- Every mnemonic of `POp`. -/
def POp.all : List POp := [.vpcompressb, .vpcompressw, .vpexpandb, .vpexpandw]

/-! ## From a row and operands to the instruction -/

/-- The legacy instruction of a row. Absent where the row names memory and the operand is a register. -/
def LOp.make : LOp → Pfx → BitVec 4 → Rm → Byte → Option Instr
  | .cldemote, p, _, .mem m, _ => some (.cldemote p m)
  | .cldemote, _, _, .reg _, _ => none
  | .gf2p8affineinvqb, p, g, rm, i => some (.gf2p8affineinvqb p g rm i)
  | .gf2p8affineqb, p, g, rm, i => some (.gf2p8affineqb p g rm i)
  | .gf2p8mulb, p, g, rm, _ => some (.gf2p8mulb p g rm)
  | .movdiri32, p, g, .mem m, _ => some (.movdiri32 p m g)
  | .movdiri32, _, _, .reg _, _ => none
  | .movdiri64, p, g, .mem m, _ => some (.movdiri64 p m g)
  | .movdiri64, _, _, .reg _, _ => none
  | .movdir64b, p, g, .mem m, _ => some (.movdir64b p g m)
  | .movdir64b, _, _, .reg _, _ => none
  | .pconfig, p, _, _, _ => some (.pconfig p)
  | .tpause, p, _, rm, _ => some (.tpause p rm)
  | .umonitor, p, _, rm, _ => some (.umonitor p rm)
  | .umwait, p, _, rm, _ => some (.umwait p rm)
  | .wbnoinvd, p, _, _, _ => some (.wbnoinvd p)

/-- The VEX instruction of a mnemonic at 128 (`false`) or 256 bits; absent where R125 lists no such row. -/
def VOp.make : VOp → Bool → VexOps → Byte → Option Instr
  | .vgf2p8affineinvqb, false, o, i => some (.vgf2p8affineinvqbVex128 o i)
  | .vgf2p8affineinvqb, true, o, i => some (.vgf2p8affineinvqbVex256 o i)
  | .vgf2p8affineqb, false, o, i => some (.vgf2p8affineqbVex128 o i)
  | .vgf2p8affineqb, true, o, i => some (.vgf2p8affineqbVex256 o i)
  | .vgf2p8mulb, false, o, _ => some (.vgf2p8mulbVex128 o)
  | .vgf2p8mulb, true, o, _ => some (.vgf2p8mulbVex256 o)
  | .vaesdec, false, _, _ => none
  | .vaesdec, true, o, _ => some (.vaesdecVex256 o)
  | .vaesdeclast, false, _, _ => none
  | .vaesdeclast, true, o, _ => some (.vaesdeclastVex256 o)
  | .vaesenc, false, _, _ => none
  | .vaesenc, true, o, _ => some (.vaesencVex256 o)
  | .vaesenclast, false, _, _ => none
  | .vaesenclast, true, o, _ => some (.vaesenclastVex256 o)
  | .vpclmulqdq, false, _, _ => none
  | .vpclmulqdq, true, o, i => some (.vpclmulqdqVex256 o i)

/-- The EVEX instruction of a mnemonic at a vector length. -/
def EOp.make : EOp → VL → EvexOps Rm → Byte → Instr
  | .vgf2p8affineinvqb, .v128, o, i => .vgf2p8affineinvqbEvex128 o i
  | .vgf2p8affineinvqb, .v256, o, i => .vgf2p8affineinvqbEvex256 o i
  | .vgf2p8affineinvqb, .v512, o, i => .vgf2p8affineinvqbEvex512 o i
  | .vgf2p8affineqb, .v128, o, i => .vgf2p8affineqbEvex128 o i
  | .vgf2p8affineqb, .v256, o, i => .vgf2p8affineqbEvex256 o i
  | .vgf2p8affineqb, .v512, o, i => .vgf2p8affineqbEvex512 o i
  | .vgf2p8mulb, .v128, o, _ => .vgf2p8mulbEvex128 o
  | .vgf2p8mulb, .v256, o, _ => .vgf2p8mulbEvex256 o
  | .vgf2p8mulb, .v512, o, _ => .vgf2p8mulbEvex512 o
  | .vaesdec, .v128, o, _ => .vaesdecEvex128 o
  | .vaesdec, .v256, o, _ => .vaesdecEvex256 o
  | .vaesdec, .v512, o, _ => .vaesdecEvex512 o
  | .vaesdeclast, .v128, o, _ => .vaesdeclastEvex128 o
  | .vaesdeclast, .v256, o, _ => .vaesdeclastEvex256 o
  | .vaesdeclast, .v512, o, _ => .vaesdeclastEvex512 o
  | .vaesenc, .v128, o, _ => .vaesencEvex128 o
  | .vaesenc, .v256, o, _ => .vaesencEvex256 o
  | .vaesenc, .v512, o, _ => .vaesencEvex512 o
  | .vaesenclast, .v128, o, _ => .vaesenclastEvex128 o
  | .vaesenclast, .v256, o, _ => .vaesenclastEvex256 o
  | .vaesenclast, .v512, o, _ => .vaesenclastEvex512 o
  | .vpclmulqdq, .v128, o, i => .vpclmulqdqEvex128 o i
  | .vpclmulqdq, .v256, o, i => .vpclmulqdqEvex256 o i
  | .vpclmulqdq, .v512, o, i => .vpclmulqdqEvex512 o i
  | .vpdpbusd, .v128, o, _ => .vpdpbusd128 o
  | .vpdpbusd, .v256, o, _ => .vpdpbusd256 o
  | .vpdpbusd, .v512, o, _ => .vpdpbusd512 o
  | .vpdpbusds, .v128, o, _ => .vpdpbusds128 o
  | .vpdpbusds, .v256, o, _ => .vpdpbusds256 o
  | .vpdpbusds, .v512, o, _ => .vpdpbusds512 o
  | .vpdpwssd, .v128, o, _ => .vpdpwssd128 o
  | .vpdpwssd, .v256, o, _ => .vpdpwssd256 o
  | .vpdpwssd, .v512, o, _ => .vpdpwssd512 o
  | .vpdpwssds, .v128, o, _ => .vpdpwssds128 o
  | .vpdpwssds, .v256, o, _ => .vpdpwssds256 o
  | .vpdpwssds, .v512, o, _ => .vpdpwssds512 o
  | .vpopcntb, .v128, o, _ => .vpopcntb128 o
  | .vpopcntb, .v256, o, _ => .vpopcntb256 o
  | .vpopcntb, .v512, o, _ => .vpopcntb512 o
  | .vpopcntw, .v128, o, _ => .vpopcntw128 o
  | .vpopcntw, .v256, o, _ => .vpopcntw256 o
  | .vpopcntw, .v512, o, _ => .vpopcntw512 o
  | .vpopcntd, .v128, o, _ => .vpopcntd128 o
  | .vpopcntd, .v256, o, _ => .vpopcntd256 o
  | .vpopcntd, .v512, o, _ => .vpopcntd512 o
  | .vpopcntq, .v128, o, _ => .vpopcntq128 o
  | .vpopcntq, .v256, o, _ => .vpopcntq256 o
  | .vpopcntq, .v512, o, _ => .vpopcntq512 o
  | .vpshldw, .v128, o, i => .vpshldw128 o i
  | .vpshldw, .v256, o, i => .vpshldw256 o i
  | .vpshldw, .v512, o, i => .vpshldw512 o i
  | .vpshldd, .v128, o, i => .vpshldd128 o i
  | .vpshldd, .v256, o, i => .vpshldd256 o i
  | .vpshldd, .v512, o, i => .vpshldd512 o i
  | .vpshldq, .v128, o, i => .vpshldq128 o i
  | .vpshldq, .v256, o, i => .vpshldq256 o i
  | .vpshldq, .v512, o, i => .vpshldq512 o i
  | .vpshldvw, .v128, o, _ => .vpshldvw128 o
  | .vpshldvw, .v256, o, _ => .vpshldvw256 o
  | .vpshldvw, .v512, o, _ => .vpshldvw512 o
  | .vpshldvd, .v128, o, _ => .vpshldvd128 o
  | .vpshldvd, .v256, o, _ => .vpshldvd256 o
  | .vpshldvd, .v512, o, _ => .vpshldvd512 o
  | .vpshldvq, .v128, o, _ => .vpshldvq128 o
  | .vpshldvq, .v256, o, _ => .vpshldvq256 o
  | .vpshldvq, .v512, o, _ => .vpshldvq512 o
  | .vpshrdw, .v128, o, i => .vpshrdw128 o i
  | .vpshrdw, .v256, o, i => .vpshrdw256 o i
  | .vpshrdw, .v512, o, i => .vpshrdw512 o i
  | .vpshrdd, .v128, o, i => .vpshrdd128 o i
  | .vpshrdd, .v256, o, i => .vpshrdd256 o i
  | .vpshrdd, .v512, o, i => .vpshrdd512 o i
  | .vpshrdq, .v128, o, i => .vpshrdq128 o i
  | .vpshrdq, .v256, o, i => .vpshrdq256 o i
  | .vpshrdq, .v512, o, i => .vpshrdq512 o i
  | .vpshrdvw, .v128, o, _ => .vpshrdvw128 o
  | .vpshrdvw, .v256, o, _ => .vpshrdvw256 o
  | .vpshrdvw, .v512, o, _ => .vpshrdvw512 o
  | .vpshrdvd, .v128, o, _ => .vpshrdvd128 o
  | .vpshrdvd, .v256, o, _ => .vpshrdvd256 o
  | .vpshrdvd, .v512, o, _ => .vpshrdvd512 o
  | .vpshrdvq, .v128, o, _ => .vpshrdvq128 o
  | .vpshrdvq, .v256, o, _ => .vpshrdvq256 o
  | .vpshrdvq, .v512, o, _ => .vpshrdvq512 o
  | .vpshufbitqmb, .v128, o, _ => .vpshufbitqmb128 o
  | .vpshufbitqmb, .v256, o, _ => .vpshufbitqmb256 o
  | .vpshufbitqmb, .v512, o, _ => .vpshufbitqmb512 o

/-- The memory form of a mnemonic at a vector length. -/
def POp.makeMem : POp → VL → EvexOps Mem → Instr
  | .vpcompressb, .v128, o => .vpcompressb128m o
  | .vpcompressb, .v256, o => .vpcompressb256m o
  | .vpcompressb, .v512, o => .vpcompressb512m o
  | .vpcompressw, .v128, o => .vpcompressw128m o
  | .vpcompressw, .v256, o => .vpcompressw256m o
  | .vpcompressw, .v512, o => .vpcompressw512m o
  | .vpexpandb, .v128, o => .vpexpandb128m o
  | .vpexpandb, .v256, o => .vpexpandb256m o
  | .vpexpandb, .v512, o => .vpexpandb512m o
  | .vpexpandw, .v128, o => .vpexpandw128m o
  | .vpexpandw, .v256, o => .vpexpandw256m o
  | .vpexpandw, .v512, o => .vpexpandw512m o

/-- The register form of a mnemonic at a vector length. -/
def POp.makeReg : POp → VL → EvexOps (BitVec 5) → Instr
  | .vpcompressb, .v128, o => .vpcompressb128r o
  | .vpcompressb, .v256, o => .vpcompressb256r o
  | .vpcompressb, .v512, o => .vpcompressb512r o
  | .vpcompressw, .v128, o => .vpcompressw128r o
  | .vpcompressw, .v256, o => .vpcompressw256r o
  | .vpcompressw, .v512, o => .vpcompressw512r o
  | .vpexpandb, .v128, o => .vpexpandb128r o
  | .vpexpandb, .v256, o => .vpexpandb256r o
  | .vpexpandb, .v512, o => .vpexpandb512r o
  | .vpexpandw, .v128, o => .vpexpandw128r o
  | .vpexpandw, .v256, o => .vpexpandw256r o
  | .vpexpandw, .v512, o => .vpexpandw512r o

/-! ## Bit fields -/

/-- A little-endian 16-bit value (R64). -/
def le16 (b0 b1 : Byte) : BitVec 16 := b1 ++ b0

/-- A little-endian 32-bit value (R64). -/
def le32 (b0 b1 b2 b3 : Byte) : BitVec 32 := b3 ++ b2 ++ b1 ++ b0

/-- Bytes of a 16-bit value, lowest first (R64). -/
def bytes16 (v : BitVec 16) : List Byte := [v.extractLsb' 0 8, v.extractLsb' 8 8]

/-- Bytes of a 32-bit value, lowest first (R64). -/
def bytes32 (v : BitVec 32) : List Byte :=
  [v.extractLsb' 0 8, v.extractLsb' 8 8, v.extractLsb' 16 8, v.extractLsb' 24 8]

/-- A 4-bit register number from its extension bit and its 3-bit field (R108). -/
def num4 (x : Bool) (f : BitVec 3) : BitVec 4 := BitVec.ofBool x ++ f

/-- A 5-bit register number from two extension bits, the upper one first, and its 3-bit field (R119). -/
def num5 (x y : Bool) (f : BitVec 3) : BitVec 5 := BitVec.ofBool x ++ BitVec.ofBool y ++ f

/-- `ModRM.mod` (R97); the `scale` of a SIB byte (R98). -/
def modField (b : Byte) : BitVec 2 := b.extractLsb' 6 2

/-- `ModRM.reg` (R97); the `index` of a SIB byte (R98). -/
def regField (b : Byte) : BitVec 3 := b.extractLsb' 3 3

/-- `ModRM.rm` (R97); the `base` of a SIB byte (R98). -/
def rmField (b : Byte) : BitVec 3 := b.extractLsb' 0 3

/-- A ModRM or SIB byte from its three fields (R97, R98). -/
def threeFields (a : BitVec 2) (b c : BitVec 3) : Byte := a ++ b ++ c

/-- The low three bits of a register number. -/
def low3 {w : Nat} (r : BitVec w) : BitVec 3 := r.extractLsb' 0 3

/-! ## What stands before the opcode -/

/-- The meaning of a byte of R91, the REX bytes apart. -/
def legacyByte (b : Byte) : Option Prefix :=
  if b = 0xF0 then some .lock
  else if b = 0xF2 then some .repne
  else if b = 0xF3 then some .rep
  else if b = 0x66 then some .osize
  else if b = 0x67 then some .asize
  else if b = 0x26 then some (.seg .es)
  else if b = 0x2E then some (.seg .cs)
  else if b = 0x36 then some (.seg .ss)
  else if b = 0x3E then some (.seg .ds)
  else if b = 0x64 then some (.seg .fs)
  else if b = 0x65 then some (.seg .gs)
  else none

/-- The byte of R91 that stands for it; for an ignored REX any REX byte, 40H. -/
def Prefix.byte : Prefix → Byte
  | .lock => 0xF0
  | .repne => 0xF2
  | .rep => 0xF3
  | .osize => 0x66
  | .asize => 0x67
  | .seg .es => 0x26
  | .seg .cs => 0x2E
  | .seg .ss => 0x36
  | .seg .ds => 0x3E
  | .seg .fs => 0x64
  | .seg .gs => 0x65
  | .deadRex => 0x40

/-- A REX byte, 40H to 4FH, which exists in 64-bit mode only (R95). -/
def isRex (m : Mode) (b : Byte) : Bool := m = .bits64 && b.extractLsb' 4 4 = 4

/-- A REX byte that something follows is ignored (R95). -/
def flushRex (pend : Option (BitVec 4)) : List Prefix := if pend.isSome then [.deadRex] else []

/-- Steps 1 and 2 of R128: the bytes before the opcode, the REX bits that stand directly before it,
and what is left. `pend` holds the bits of a REX byte just seen. -/
def scanBytes (m : Mode) (pend : Option (BitVec 4)) :
    List Byte → List Prefix × Option (BitVec 4) × List Byte
  | [] => ([], pend, [])
  | b :: bs =>
    if isRex m b then
      let r := scanBytes m (some (b.extractLsb' 0 4)) bs
      (flushRex pend ++ r.1, r.2)
    else match legacyByte b with
      | some p =>
        let r := scanBytes m none bs
        (flushRex pend ++ p :: r.1, r.2)
      | none => ([], pend, b :: bs)

/-- Whether a byte of R91 is among those before the opcode. -/
def Pfx.has (p : Pfx) (x : Prefix) : Bool := p.bytes.contains x

/-- The last segment override, if any: the last one wins (R93). -/
def Pfx.override (p : Pfx) : Option SegReg :=
  p.bytes.foldl (fun acc x => match x with
    | .seg r => some r
    | _ => acc) none

/-- Bytes before the opcode, VEX or EVEX bytes. -/
def Pfx.len (p : Pfx) : Nat := p.bytes.length + p.rex.toNat

/-- The address size (R61, R100). -/
def addrSize (m : Mode) (csD : Bool) (p : Pfx) : ASize :=
  match m with
  | .bits64 => if p.has .asize then .a32 else .a64
  | .real | .v86 => if p.has .asize then .a32 else .a16
  | .prot | .compat =>
    if csD then (if p.has .asize then .a16 else .a32)
    else (if p.has .asize then .a32 else .a16)

/-! ## ModRM, SIB, displacement -/

/-- A displacement by `mod` and addressing width (R99). -/
def takeDisp (a : ASize) (mod : BitVec 2) (bs : List Byte) : Except DecErr (Disp × List Byte) :=
  if mod = 0 then .ok (.none, bs)
  else if mod = 1 then
    match bs with
    | b :: t => .ok (.d8 b, t)
    | _ => .error .short
  else if a = .a16 then
    match bs with
    | b0 :: b1 :: t => .ok (.d16 (le16 b0 b1), t)
    | _ => .error .short
  else
    match bs with
    | b0 :: b1 :: b2 :: b3 :: t => .ok (.d32 (le32 b0 b1 b2 b3), t)
    | _ => .error .short

/-- A memory operand after its ModRM byte; `x` and `b` are the extension bits (R98 to R102). -/
def takeMem (a : ASize) (x b : Bool) (mod : BitVec 2) (rm : BitVec 3) (bs : List Byte) :
    Except DecErr (Mem × List Byte) :=
  if a = .a16 then
    if mod = 0 ∧ rm = 6 then
      match bs with
      | b0 :: b1 :: t => .ok (.abs16 (le16 b0 b1), t)
      | _ => .error .short
    else do
      let (d, t) ← takeDisp a mod bs
      .ok (.a16 rm d, t)
  else if rm = 4 then
    match bs with
    | [] => .error .short
    | s :: t =>
      if mod = 0 ∧ rmField s = 5 then
        match t with
        | b0 :: b1 :: b2 :: b3 :: u =>
          .ok (.sibAbs (modField s) (num4 x (regField s)) (le32 b0 b1 b2 b3), u)
        | _ => .error .short
      else do
        let (d, u) ← takeDisp a mod t
        .ok (.sib (modField s) (num4 x (regField s)) (num4 b (rmField s)) d, u)
  else if mod = 0 ∧ rm = 5 then
    match bs with
    | b0 :: b1 :: b2 :: b3 :: t => .ok (.rel (le32 b0 b1 b2 b3), t)
    | _ => .error .short
  else do
    let (d, t) ← takeDisp a mod bs
    .ok (.base (num4 b rm) d, t)

/-- The `ModRM:r/m` operand; `hi` is bit 4 of a register number (R97, R108, R119). -/
def takeRm (a : ASize) (hi x b : Bool) (md : Byte) (bs : List Byte) :
    Except DecErr (Rm × List Byte) :=
  if modField md = 3 then .ok (.reg (num5 hi b (rmField md)), bs)
  else do
    let (m, t) ← takeMem a x b (modField md) (rmField md) bs
    .ok (.mem m, t)

/-- The immediate byte, on a row that has one (R105). -/
def takeImm (has : Bool) (bs : List Byte) : Except DecErr (Byte × List Byte) :=
  if has then
    match bs with
    | i :: t => .ok (i, t)
    | [] => .error .short
  else .ok (0, bs)

/-! ## The three formats -/

/-- Whether the bytes 66, F3, F2 that are present suit a legacy row (R94). -/
def Mand.ok (k : Mand) (p : Pfx) : Bool :=
  match k with
  | .np => !p.has .osize && !p.has .rep && !p.has .repne
  | .npBut66 => !p.has .rep && !p.has .repne
  | .free => true
  | .p66 => p.has .osize && !p.has .rep && !p.has .repne
  | .pF3 => p.has .rep && !p.has .osize && !p.has .repne
  | .pF2 => p.has .repne && !p.has .osize && !p.has .rep

/-- The opcode bytes of a legacy instruction: two, or three in the maps 0F 38 and 0F 3A and for
0F 01, whose third byte is fixed (R96, R97). -/
def takeOpcode (bs : List Byte) : Except DecErr (List Byte × List Byte) :=
  match bs with
  | [] => .error .short
  | b0 :: t0 =>
    if b0 ≠ 0x0F then .error .outside
    else match t0 with
      | [] => .error .short
      | b1 :: t1 =>
        if b1 = 0x38 ∨ b1 = 0x3A ∨ b1 = 0x01 then
          match t1 with
          | [] => .error .short
          | b2 :: t2 => .ok ([b0, b1, b2], t2)
        else .ok ([b0, b1], t1)

/-- Whether a ModRM byte suits the `mod` column of a row (R106). -/
def RmForm.ok (f : RmForm) (md : Byte) : Bool :=
  match f with
  | .any => true
  | .mem => modField md ≠ 3
  | .reg => modField md = 3

/-- Step 4 of R128 for a legacy row, before ModRM: opcode, the bytes of R94, REX.W. -/
def LegacyRow.opens (r : LegacyRow) (opc : List Byte) (p : Pfx) (rexW : Bool) : Bool :=
  r.opc = opc && r.mand.ok p && (r.w.isNone || r.w = some rexW)

/-- The same with the digit and `mod` of ModRM. -/
def LegacyRow.suits (r : LegacyRow) (opc : List Byte) (p : Pfx) (rexW : Bool) (md : Option Byte) :
    Bool :=
  r.opens opc p rexW &&
  match r.rm, md with
  | none, _ => true
  | some _, none => false
  | some f, some b => f.ok b && (r.digit.isNone || r.digit = some (regField b))

/-- A legacy instruction; `rex` holds the W, R, X, B bits (R95, R128). What no row opens with is refused
before ModRM is asked for (R131). -/
def decodeLegacy (a : ASize) (p : Pfx) (rex : BitVec 4) (bs : List Byte) :
    Except DecErr (Instr × List Byte) := do
  let (opc, t) ← takeOpcode bs
  if t = [] ∧ LOp.all.any (fun l => l.row.opens opc p (rex.getLsbD 3) && l.row.rm.isSome) then
    .error .short
  else match LOp.all.find? (fun l => l.row.suits opc p (rex.getLsbD 3) t.head?) with
    | none => .error .outside
    | some l =>
      match l.row.rm, t with
      | some _, md :: u => do
        let (rm, u) ← takeRm a false (rex.getLsbD 1) (rex.getLsbD 0) md u
        let (i, u) ← takeImm l.row.imm u
        match l.make p (num4 (rex.getLsbD 2) (regField md)) rm i with
        | some x => .ok (x, u)
        | none => .error .outside
      | _, _ =>
        match l.make p 0 (.reg 0) 0 with
        | some x => .ok (x, t)
        | none => .error .outside

/-- Whether the two bytes after C4, and the opcode, select a VEX row (R111): map, `pp` = 66, `W`. -/
def VexRow.suits (r : VexRow) (v1 v2 op : Byte) : Bool :=
  v1.extractLsb' 0 5 = r.map && v2.extractLsb' 0 2 = 1 && op = r.op &&
  (r.w.isNone || r.w = some (v2.getLsbD 7))

/-- Whether a VEX mnemonic has a row at a length, 128 (`false`) or 256 bits (R111, R125). -/
def VOp.hasLength (v : VOp) (l : Bool) : Bool := (v.make l ⟨⟨[], false⟩, 0, 0, .reg 0⟩ 0).isSome

/-- A VEX instruction after its byte C4 (R109 to R113). What no row opens with, `L` included, is refused
before ModRM is asked for (R131). Outside 64-bit mode the inverted B bit and bit 3 of `vvvv` are
ignored. -/
def decodeVex (m : Mode) (a : ASize) (p : Pfx) (bs : List Byte) : Except DecErr (Instr × List Byte) :=
  match bs with
  | v1 :: v2 :: op :: t =>
    match VOp.all.find? (fun v => v.row.suits v1 v2 op && v.hasLength (v2.getLsbD 2)) with
    | none => .error .outside
    | some v =>
      match t with
      | [] => .error .short
      | md :: t => do
        let b := m = .bits64 && !v1.getLsbD 5
        let vvvv := ~~~v2.extractLsb' 3 4
        let (rm, t) ← takeRm a false (!v1.getLsbD 6) b md t
        let (i, t) ← takeImm v.row.imm t
        let o : VexOps :=
          { pfx := p, reg := num4 (!v1.getLsbD 7) (regField md),
            vvvv := if m = .bits64 then vvvv else vvvv &&& 7, rm := rm }
        match v.make (v2.getLsbD 2) o i with
        | some x => .ok (x, t)
        | none => .error .outside
  | _ => .error .short

/-- Which EVEX row a mnemonic and operand form stand for. -/
inductive EvexSel
  | gen (e : EOp)
  | mem (p : POp)
  | reg (p : POp)
  deriving DecidableEq, Repr

/-- The row of a selection. -/
def EvexSel.row : EvexSel → EvexRow
  | .gen e => e.row
  | .mem p => p.memRow
  | .reg p => p.regRow

/-- Every EVEX row. -/
def EvexSel.all : List EvexSel := EOp.all.map .gen ++ POp.all.map .mem ++ POp.all.map .reg

/-- The instruction of a selected row, where the operand has the row's form. -/
def EvexSel.make (s : EvexSel) (vl : VL) (o : EvexOps Rm) (i : Byte) : Option Instr :=
  match s, o.rm with
  | .gen e, _ => some (e.make vl o i)
  | .mem p, .mem m => some (p.makeMem vl ⟨o.pfx, o.reg, o.vvvv, m, o.aaa, o.z, o.b⟩)
  | .reg p, .reg r => some (p.makeReg vl ⟨o.pfx, o.reg, o.vvvv, r, o.aaa, o.z, o.b⟩)
  | _, _ => none

/-- Whether P0, P1 and the opcode open an EVEX row (R117): map, `pp` = 66, `W`. -/
def EvexRow.opens (r : EvexRow) (p0 p1 op : Byte) : Bool :=
  p0.extractLsb' 0 2 = r.map && p1.extractLsb' 0 2 = 1 && op = r.op &&
  (r.w.isNone || r.w = some (p1.getLsbD 7))

/-- The same with the `mod` of ModRM. -/
def EvexRow.suits (r : EvexRow) (p0 p1 op md : Byte) : Bool := r.opens p0 p1 op && r.rm.ok md

/-- The vector length of `L'L`; 11 is none (R118). -/
def VL.ofBits (l : BitVec 2) : Option VL :=
  if l = 0 then some .v128 else if l = 1 then some .v256 else if l = 2 then some .v512 else none

/-- The fixed bits of P0 and P1 are as R116 has them. -/
def evexFixed (p0 p1 : Byte) : Bool := p0.extractLsb' 2 2 = 0 && p1.getLsbD 2

/-- The extension bits R, X, B, R' and V' are in their "0" state (R119). -/
def evexPlain (p0 p2 : Byte) : Bool := p0.extractLsb' 4 4 = 15 && p2.getLsbD 3

/-- LOCK, 66, F3, F2 or a REX byte, none of which may stand before VEX or EVEX bytes (R94, R109, R115). -/
def badBeforeVector (p : Pfx) : Bool :=
  p.has .lock || p.has .osize || p.has .rep || p.has .repne || p.rex

/-- Reserved values of the EVEX fields (R117, R119 to R121, R133, R221, R318): `vvvv` on a row that does
not use it; `z` without a mask or where only merging exists; a mask on a row without masking; `b` with
a register or on a row without broadcast; a mask destination above k7. -/
def evexReserved (r : EvexRow) (o : EvexOps Rm) : Bool :=
  (!r.usesV && o.vvvv ≠ 0) ||
  (o.z && (o.aaa = 0 || r.masking ≠ .kz)) ||
  (r.masking = .none && o.aaa ≠ 0) ||
  (o.b && (match o.rm with
    | .reg _ => true
    | .mem _ => r.bcst = 0)) ||
  (r.masking = .kk && 8 ≤ o.reg.toNat)

/-- Whether an EVEX form outside 64-bit mode is #UD whatever registers its extension bits would name: no
EVEX form exists in the mode (R115), a byte in front of 62 is #UD, LOCK among them (R92, R94), or a field
has a reserved value (R117, R119, R133). -/
def evexUndefined (m : Mode) (r : EvexRow) (o : EvexOps Rm) : Bool :=
  m = .real || m = .v86 || badBeforeVector o.pfx || evexReserved r o

/-- `V':vvvv` as a row takes it. Outside 64-bit mode bit 3 of `vvvv` is ignored on a row that uses the field
(PRESUMED, log 39). -/
def evexVvvv (m : Mode) (r : EvexRow) (p1 p2 : Byte) : BitVec 5 :=
  let v := ~~~(BitVec.ofBool (p2.getLsbD 3) ++ p1.extractLsb' 3 4)
  if m ≠ .bits64 ∧ r.usesV = true then v &&& 0x17 else v

/-- An EVEX instruction after its byte 62 (R115 to R122). Wrong fixed bits are #UD, the rest of the format
having been read (R312); what no row opens with is refused before ModRM is asked for (R131); `L'L` = 11
is #UD. Outside 64-bit mode extension bits that are not plain are refused (R119, D2; log 24), unless the
form is #UD anyway. -/
def decodeEvex (m : Mode) (a : ASize) (p : Pfx) (bs : List Byte) : Except DecErr (Instr × List Byte) :=
  match bs with
  | p0 :: p1 :: p2 :: op :: t =>
    if evexFixed p0 p1 && !EvexSel.all.any (fun s => s.row.opens p0 p1 op) then .error .outside
    else match t with
      | [] => .error .short
      | md :: t =>
        if !evexFixed p0 p1 then do
          let (_, t) ← takeRm a false false false md t
          let (_, t) ← takeImm (p0.extractLsb' 0 2 = 3) t
          .error (.ud t.length)
        else match EvexSel.all.find? (fun s => s.row.suits p0 p1 op md) with
          | none => .error .outside
          | some s => do
            let (rm, t) ← takeRm a (!p0.getLsbD 6) (!p0.getLsbD 6) (!p0.getLsbD 5) md t
            let (i, t) ← takeImm s.row.imm t
            match VL.ofBits (p2.extractLsb' 5 2) with
            | none => .error (.ud t.length)
            | some vl =>
              let o : EvexOps Rm :=
                { pfx := p, reg := num5 (!p0.getLsbD 4) (!p0.getLsbD 7) (regField md),
                  vvvv := evexVvvv m s.row p1 p2, rm := rm,
                  aaa := p2.extractLsb' 0 3, z := p2.getLsbD 7, b := p2.getLsbD 4 }
              if m ≠ .bits64 ∧ ¬(evexPlain p0 p2 = true ∧ o.vvvv.toNat < 8) then
                if evexUndefined m s.row o then .error (.ud t.length) else .error .evexExt
              else match s.make vl o i with
                | some x => .ok (x, t)
                | none => .error .outside
  | _ => .error .short

/-- The decoding procedure of R128: one instruction and the bytes left after it. Outside 64-bit mode
C4 and 62 are VEX and EVEX only when the next byte's top two bits are 11 (R109, R115). -/
def decode (m : Mode) (csD : Bool) (bs : List Byte) : Except DecErr (Instr × List Byte) :=
  let (ps, rex, t) := scanBytes m none bs
  let p : Pfx := ⟨ps, rex.isSome⟩
  let a := addrSize m csD p
  match t with
  | 0xC4#8 :: u =>
    match u with
    | [] => .error .short
    | v1 :: _ =>
      if m = .bits64 ∨ v1.extractLsb' 6 2 = 3 then decodeVex m a p u else .error .outside
  | 0x62#8 :: u =>
    match u with
    | [] => .error .short
    | p0 :: _ =>
      if m = .bits64 ∨ p0.extractLsb' 6 2 = 3 then decodeEvex m a p u else .error .outside
  | _ => decodeLegacy a p (rex.getD 0) t

/-! ## Writing an instruction -/

/-- What an instruction is made of: the row that lists it and its operands. -/
inductive Form
  | legacy (r : LegacyRow) (p : Pfx) (reg : BitVec 4) (rm : Option Rm) (imm : Byte)
  | vex (r : VexRow) (l : Bool) (o : VexOps) (imm : Byte)
  | evex (r : EvexRow) (vl : VL) (o : EvexOps Rm) (imm : Byte)
  deriving DecidableEq, Repr

/-- The operands of a memory row as operands of any row. -/
def EvexOps.anyMem (o : EvexOps Mem) : EvexOps Rm :=
  ⟨o.pfx, o.reg, o.vvvv, .mem o.rm, o.aaa, o.z, o.b⟩

/-- The operands of a register row as operands of any row. -/
def EvexOps.anyReg (o : EvexOps (BitVec 5)) : EvexOps Rm :=
  ⟨o.pfx, o.reg, o.vvvv, .reg o.rm, o.aaa, o.z, o.b⟩

/-- What an instruction is made of. -/
def Instr.form : Instr → Form
  | .cldemote p m => .legacy LOp.cldemote.row p 0 (some (.mem m)) 0
  | .gf2p8affineinvqb p g rm i => .legacy LOp.gf2p8affineinvqb.row p g (some rm) i
  | .gf2p8affineqb p g rm i => .legacy LOp.gf2p8affineqb.row p g (some rm) i
  | .gf2p8mulb p g rm => .legacy LOp.gf2p8mulb.row p g (some rm) 0
  | .movdiri32 p m g => .legacy LOp.movdiri32.row p g (some (.mem m)) 0
  | .movdiri64 p m g => .legacy LOp.movdiri64.row p g (some (.mem m)) 0
  | .movdir64b p g m => .legacy LOp.movdir64b.row p g (some (.mem m)) 0
  | .pconfig p => .legacy LOp.pconfig.row p 0 none 0
  | .tpause p rm => .legacy LOp.tpause.row p 0 (some rm) 0
  | .umonitor p rm => .legacy LOp.umonitor.row p 0 (some rm) 0
  | .umwait p rm => .legacy LOp.umwait.row p 0 (some rm) 0
  | .wbnoinvd p => .legacy LOp.wbnoinvd.row p 0 none 0
  | .vgf2p8affineinvqbVex128 o i => .vex VOp.vgf2p8affineinvqb.row false o i
  | .vgf2p8affineinvqbVex256 o i => .vex VOp.vgf2p8affineinvqb.row true o i
  | .vgf2p8affineqbVex128 o i => .vex VOp.vgf2p8affineqb.row false o i
  | .vgf2p8affineqbVex256 o i => .vex VOp.vgf2p8affineqb.row true o i
  | .vgf2p8mulbVex128 o => .vex VOp.vgf2p8mulb.row false o 0
  | .vgf2p8mulbVex256 o => .vex VOp.vgf2p8mulb.row true o 0
  | .vaesdecVex256 o => .vex VOp.vaesdec.row true o 0
  | .vaesdeclastVex256 o => .vex VOp.vaesdeclast.row true o 0
  | .vaesencVex256 o => .vex VOp.vaesenc.row true o 0
  | .vaesenclastVex256 o => .vex VOp.vaesenclast.row true o 0
  | .vpclmulqdqVex256 o i => .vex VOp.vpclmulqdq.row true o i
  | .vgf2p8affineinvqbEvex128 o i => .evex EOp.vgf2p8affineinvqb.row .v128 o i
  | .vgf2p8affineinvqbEvex256 o i => .evex EOp.vgf2p8affineinvqb.row .v256 o i
  | .vgf2p8affineinvqbEvex512 o i => .evex EOp.vgf2p8affineinvqb.row .v512 o i
  | .vgf2p8affineqbEvex128 o i => .evex EOp.vgf2p8affineqb.row .v128 o i
  | .vgf2p8affineqbEvex256 o i => .evex EOp.vgf2p8affineqb.row .v256 o i
  | .vgf2p8affineqbEvex512 o i => .evex EOp.vgf2p8affineqb.row .v512 o i
  | .vgf2p8mulbEvex128 o => .evex EOp.vgf2p8mulb.row .v128 o 0
  | .vgf2p8mulbEvex256 o => .evex EOp.vgf2p8mulb.row .v256 o 0
  | .vgf2p8mulbEvex512 o => .evex EOp.vgf2p8mulb.row .v512 o 0
  | .vaesdecEvex128 o => .evex EOp.vaesdec.row .v128 o 0
  | .vaesdecEvex256 o => .evex EOp.vaesdec.row .v256 o 0
  | .vaesdecEvex512 o => .evex EOp.vaesdec.row .v512 o 0
  | .vaesdeclastEvex128 o => .evex EOp.vaesdeclast.row .v128 o 0
  | .vaesdeclastEvex256 o => .evex EOp.vaesdeclast.row .v256 o 0
  | .vaesdeclastEvex512 o => .evex EOp.vaesdeclast.row .v512 o 0
  | .vaesencEvex128 o => .evex EOp.vaesenc.row .v128 o 0
  | .vaesencEvex256 o => .evex EOp.vaesenc.row .v256 o 0
  | .vaesencEvex512 o => .evex EOp.vaesenc.row .v512 o 0
  | .vaesenclastEvex128 o => .evex EOp.vaesenclast.row .v128 o 0
  | .vaesenclastEvex256 o => .evex EOp.vaesenclast.row .v256 o 0
  | .vaesenclastEvex512 o => .evex EOp.vaesenclast.row .v512 o 0
  | .vpclmulqdqEvex128 o i => .evex EOp.vpclmulqdq.row .v128 o i
  | .vpclmulqdqEvex256 o i => .evex EOp.vpclmulqdq.row .v256 o i
  | .vpclmulqdqEvex512 o i => .evex EOp.vpclmulqdq.row .v512 o i
  | .vpdpbusd128 o => .evex EOp.vpdpbusd.row .v128 o 0
  | .vpdpbusd256 o => .evex EOp.vpdpbusd.row .v256 o 0
  | .vpdpbusd512 o => .evex EOp.vpdpbusd.row .v512 o 0
  | .vpdpbusds128 o => .evex EOp.vpdpbusds.row .v128 o 0
  | .vpdpbusds256 o => .evex EOp.vpdpbusds.row .v256 o 0
  | .vpdpbusds512 o => .evex EOp.vpdpbusds.row .v512 o 0
  | .vpdpwssd128 o => .evex EOp.vpdpwssd.row .v128 o 0
  | .vpdpwssd256 o => .evex EOp.vpdpwssd.row .v256 o 0
  | .vpdpwssd512 o => .evex EOp.vpdpwssd.row .v512 o 0
  | .vpdpwssds128 o => .evex EOp.vpdpwssds.row .v128 o 0
  | .vpdpwssds256 o => .evex EOp.vpdpwssds.row .v256 o 0
  | .vpdpwssds512 o => .evex EOp.vpdpwssds.row .v512 o 0
  | .vpopcntb128 o => .evex EOp.vpopcntb.row .v128 o 0
  | .vpopcntb256 o => .evex EOp.vpopcntb.row .v256 o 0
  | .vpopcntb512 o => .evex EOp.vpopcntb.row .v512 o 0
  | .vpopcntw128 o => .evex EOp.vpopcntw.row .v128 o 0
  | .vpopcntw256 o => .evex EOp.vpopcntw.row .v256 o 0
  | .vpopcntw512 o => .evex EOp.vpopcntw.row .v512 o 0
  | .vpopcntd128 o => .evex EOp.vpopcntd.row .v128 o 0
  | .vpopcntd256 o => .evex EOp.vpopcntd.row .v256 o 0
  | .vpopcntd512 o => .evex EOp.vpopcntd.row .v512 o 0
  | .vpopcntq128 o => .evex EOp.vpopcntq.row .v128 o 0
  | .vpopcntq256 o => .evex EOp.vpopcntq.row .v256 o 0
  | .vpopcntq512 o => .evex EOp.vpopcntq.row .v512 o 0
  | .vpshldw128 o i => .evex EOp.vpshldw.row .v128 o i
  | .vpshldw256 o i => .evex EOp.vpshldw.row .v256 o i
  | .vpshldw512 o i => .evex EOp.vpshldw.row .v512 o i
  | .vpshldd128 o i => .evex EOp.vpshldd.row .v128 o i
  | .vpshldd256 o i => .evex EOp.vpshldd.row .v256 o i
  | .vpshldd512 o i => .evex EOp.vpshldd.row .v512 o i
  | .vpshldq128 o i => .evex EOp.vpshldq.row .v128 o i
  | .vpshldq256 o i => .evex EOp.vpshldq.row .v256 o i
  | .vpshldq512 o i => .evex EOp.vpshldq.row .v512 o i
  | .vpshldvw128 o => .evex EOp.vpshldvw.row .v128 o 0
  | .vpshldvw256 o => .evex EOp.vpshldvw.row .v256 o 0
  | .vpshldvw512 o => .evex EOp.vpshldvw.row .v512 o 0
  | .vpshldvd128 o => .evex EOp.vpshldvd.row .v128 o 0
  | .vpshldvd256 o => .evex EOp.vpshldvd.row .v256 o 0
  | .vpshldvd512 o => .evex EOp.vpshldvd.row .v512 o 0
  | .vpshldvq128 o => .evex EOp.vpshldvq.row .v128 o 0
  | .vpshldvq256 o => .evex EOp.vpshldvq.row .v256 o 0
  | .vpshldvq512 o => .evex EOp.vpshldvq.row .v512 o 0
  | .vpshrdw128 o i => .evex EOp.vpshrdw.row .v128 o i
  | .vpshrdw256 o i => .evex EOp.vpshrdw.row .v256 o i
  | .vpshrdw512 o i => .evex EOp.vpshrdw.row .v512 o i
  | .vpshrdd128 o i => .evex EOp.vpshrdd.row .v128 o i
  | .vpshrdd256 o i => .evex EOp.vpshrdd.row .v256 o i
  | .vpshrdd512 o i => .evex EOp.vpshrdd.row .v512 o i
  | .vpshrdq128 o i => .evex EOp.vpshrdq.row .v128 o i
  | .vpshrdq256 o i => .evex EOp.vpshrdq.row .v256 o i
  | .vpshrdq512 o i => .evex EOp.vpshrdq.row .v512 o i
  | .vpshrdvw128 o => .evex EOp.vpshrdvw.row .v128 o 0
  | .vpshrdvw256 o => .evex EOp.vpshrdvw.row .v256 o 0
  | .vpshrdvw512 o => .evex EOp.vpshrdvw.row .v512 o 0
  | .vpshrdvd128 o => .evex EOp.vpshrdvd.row .v128 o 0
  | .vpshrdvd256 o => .evex EOp.vpshrdvd.row .v256 o 0
  | .vpshrdvd512 o => .evex EOp.vpshrdvd.row .v512 o 0
  | .vpshrdvq128 o => .evex EOp.vpshrdvq.row .v128 o 0
  | .vpshrdvq256 o => .evex EOp.vpshrdvq.row .v256 o 0
  | .vpshrdvq512 o => .evex EOp.vpshrdvq.row .v512 o 0
  | .vpshufbitqmb128 o => .evex EOp.vpshufbitqmb.row .v128 o 0
  | .vpshufbitqmb256 o => .evex EOp.vpshufbitqmb.row .v256 o 0
  | .vpshufbitqmb512 o => .evex EOp.vpshufbitqmb.row .v512 o 0
  | .vpcompressb128m o => .evex POp.vpcompressb.memRow .v128 o.anyMem 0
  | .vpcompressb128r o => .evex POp.vpcompressb.regRow .v128 o.anyReg 0
  | .vpcompressb256m o => .evex POp.vpcompressb.memRow .v256 o.anyMem 0
  | .vpcompressb256r o => .evex POp.vpcompressb.regRow .v256 o.anyReg 0
  | .vpcompressb512m o => .evex POp.vpcompressb.memRow .v512 o.anyMem 0
  | .vpcompressb512r o => .evex POp.vpcompressb.regRow .v512 o.anyReg 0
  | .vpcompressw128m o => .evex POp.vpcompressw.memRow .v128 o.anyMem 0
  | .vpcompressw128r o => .evex POp.vpcompressw.regRow .v128 o.anyReg 0
  | .vpcompressw256m o => .evex POp.vpcompressw.memRow .v256 o.anyMem 0
  | .vpcompressw256r o => .evex POp.vpcompressw.regRow .v256 o.anyReg 0
  | .vpcompressw512m o => .evex POp.vpcompressw.memRow .v512 o.anyMem 0
  | .vpcompressw512r o => .evex POp.vpcompressw.regRow .v512 o.anyReg 0
  | .vpexpandb128m o => .evex POp.vpexpandb.memRow .v128 o.anyMem 0
  | .vpexpandb128r o => .evex POp.vpexpandb.regRow .v128 o.anyReg 0
  | .vpexpandb256m o => .evex POp.vpexpandb.memRow .v256 o.anyMem 0
  | .vpexpandb256r o => .evex POp.vpexpandb.regRow .v256 o.anyReg 0
  | .vpexpandb512m o => .evex POp.vpexpandb.memRow .v512 o.anyMem 0
  | .vpexpandb512r o => .evex POp.vpexpandb.regRow .v512 o.anyReg 0
  | .vpexpandw128m o => .evex POp.vpexpandw.memRow .v128 o.anyMem 0
  | .vpexpandw128r o => .evex POp.vpexpandw.regRow .v128 o.anyReg 0
  | .vpexpandw256m o => .evex POp.vpexpandw.memRow .v256 o.anyMem 0
  | .vpexpandw256r o => .evex POp.vpexpandw.regRow .v256 o.anyReg 0
  | .vpexpandw512m o => .evex POp.vpexpandw.memRow .v512 o.anyMem 0
  | .vpexpandw512r o => .evex POp.vpexpandw.regRow .v512 o.anyReg 0

/-- `mod` of a displacement (R99). -/
def Disp.mod : Disp → BitVec 2
  | .none => 0
  | .d8 _ => 1
  | .d16 _ => 2
  | .d32 _ => 2

/-- The bytes of a displacement (R64, R99). -/
def Disp.bytes : Disp → List Byte
  | .none => []
  | .d8 v => [v]
  | .d16 v => bytes16 v
  | .d32 v => bytes32 v

/-- How many bytes a displacement has. -/
def Disp.len : Disp → Nat
  | .none => 0
  | .d8 _ => 1
  | .d16 _ => 2
  | .d32 _ => 4

/-- ModRM, SIB and displacement of a memory operand with `reg` in ModRM (R97 to R102). -/
def Mem.bytes (reg : BitVec 3) : Mem → List Byte
  | .a16 rm d => threeFields d.mod reg rm :: d.bytes
  | .abs16 v => threeFields 0 reg 6 :: bytes16 v
  | .rel v => threeFields 0 reg 5 :: bytes32 v
  | .base b d => threeFields d.mod reg (low3 b) :: d.bytes
  | .sib s i b d => threeFields d.mod reg 4 :: threeFields s (low3 i) (low3 b) :: d.bytes
  | .sibAbs s i v => threeFields 0 reg 4 :: threeFields s (low3 i) 5 :: bytes32 v

/-- How many bytes ModRM, SIB and displacement of a memory operand have. -/
def Mem.len : Mem → Nat
  | .a16 _ d => 1 + d.len
  | .abs16 _ => 3
  | .rel _ => 5
  | .base _ d => 1 + d.len
  | .sib _ _ _ d => 2 + d.len
  | .sibAbs _ _ _ => 6

/-- The extension bit X of a memory operand: bit 3 of its index (R101). -/
def Mem.extX : Mem → Bool
  | .sib _ i _ _ => i.getLsbD 3
  | .sibAbs _ i _ => i.getLsbD 3
  | _ => false

/-- The extension bit B of a memory operand: bit 3 of its base (R101). -/
def Mem.extB : Mem → Bool
  | .base b _ => b.getLsbD 3
  | .sib _ _ b _ => b.getLsbD 3
  | _ => false

/-- ModRM and what belongs to it. -/
def Rm.bytes (reg : BitVec 3) : Rm → List Byte
  | .reg r => [threeFields 3 reg (low3 r)]
  | .mem m => m.bytes reg

/-- How many bytes ModRM and what belongs to it have. -/
def Rm.len : Rm → Nat
  | .reg _ => 1
  | .mem m => m.len

/-- X of an operand: bit 4 of a register (EVEX, R119), bit 3 of an index. -/
def Rm.extX : Rm → Bool
  | .reg r => r.getLsbD 4
  | .mem m => m.extX

/-- B of an operand: bit 3 of a register or of a base. -/
def Rm.extB : Rm → Bool
  | .reg r => r.getLsbD 3
  | .mem m => m.extB

/-- The immediate, on a row that has one. -/
def immBytes (has : Bool) (i : Byte) : List Byte := if has then [i] else []

/-- The two bits of `L'L` (R118). -/
def VL.bits : VL → BitVec 2
  | .v128 => 0
  | .v256 => 1
  | .v512 => 2

/-- The bytes before the opcode, a REX byte made of the given bits included (R95). -/
def Pfx.write (p : Pfx) (w r x b : Bool) : List Byte :=
  p.bytes.map Prefix.byte ++
  if p.rex then [4#4 ++ BitVec.ofBool w ++ BitVec.ofBool r ++ BitVec.ofBool x ++ BitVec.ofBool b]
  else []

/-- The bytes of an instruction (R90 to R122). Bits that no rule reads are written as 0 where they are
stored plainly and as 1 where they are stored inverted; an ignored W is written as 0. -/
def Form.bytes : Form → List Byte
  | .legacy r p reg rm i =>
    let x := (rm.map Rm.extX).getD false
    let b := (rm.map Rm.extB).getD false
    p.write (r.w = some true) (reg.getLsbD 3) x b ++ r.opc ++
    (match rm with
      | some o => o.bytes (r.digit.getD (low3 reg))
      | none => []) ++ immBytes r.imm i
  | .vex r l o i =>
    o.pfx.write false false false false ++
    [0xC4,
     BitVec.ofBool (!o.reg.getLsbD 3) ++ BitVec.ofBool (!o.rm.extX) ++ BitVec.ofBool (!o.rm.extB) ++
       r.map,
     BitVec.ofBool (r.w.getD false) ++ ~~~o.vvvv ++ BitVec.ofBool l ++ 1#2,
     r.op] ++ o.rm.bytes (low3 o.reg) ++ immBytes r.imm i
  | .evex r vl o i =>
    o.pfx.write false false false false ++
    [0x62,
     BitVec.ofBool (!o.reg.getLsbD 3) ++ BitVec.ofBool (!o.rm.extX) ++ BitVec.ofBool (!o.rm.extB) ++
       BitVec.ofBool (!o.reg.getLsbD 4) ++ 0#2 ++ r.map,
     BitVec.ofBool (r.w.getD false) ++ ~~~o.vvvv.extractLsb' 0 4 ++ 1#1 ++ 1#2,
     BitVec.ofBool o.z ++ vl.bits ++ BitVec.ofBool o.b ++ BitVec.ofBool (!o.vvvv.getLsbD 4) ++ o.aaa,
     r.op] ++ o.rm.bytes (low3 o.reg) ++ immBytes r.imm i

/-- The length of an instruction in bytes: `ilen` of R24 and R90. -/
def Form.len : Form → Nat
  | .legacy r p _ rm _ => p.len + r.opc.length + (rm.map Rm.len).getD 0 + r.imm.toNat
  | .vex r _ o _ => o.pfx.len + 4 + o.rm.len + r.imm.toNat
  | .evex r _ o _ => o.pfx.len + 5 + o.rm.len + r.imm.toNat

/-- The bytes of an instruction. -/
def encode (i : Instr) : List Byte := i.form.bytes

/-- The length of an instruction in bytes. -/
def Instr.len (i : Instr) : Nat := i.form.len

/-! ## A word of the opcode table (log 25) -/

/-- `n` bytes of a number, least significant first. -/
def numBytes : Nat → Nat → List Byte
  | 0, _ => []
  | n + 1, w => BitVec.ofNat 8 w :: numBytes n (w / 256)

/-- Fifteen bytes: the given ones, then zeros. -/
def pad15 (bs : List Byte) : List Byte := (bs ++ List.replicate 15 0).take 15

/-- Whether bytes decode in 64-bit mode. -/
def decodes (bs : List Byte) : Bool := (decode .bits64 false (pad15 bs)).isOk

/-- The bytes that a word of the table stands for. The first byte is the word's lowest byte, or its
highest, as R127 writes `match`; and since R127 leaves 66 and F3 out of the window, a word that is no
instruction without one of them is read with it in front. -/
def tableBytes (nbits w : Nat) : List Byte :=
  let lo := numBytes (nbits / 8) w
  let hi := lo.reverse
  let tries := [lo, hi, 0x66#8 :: lo, 0x66#8 :: hi, 0xF3#8 :: lo, 0xF3#8 :: hi]
  pad15 ((tries.find? decodes).getD lo)

/-- The instruction that a word of the opcode table decodes to. -/
def decodeTableWord (nbits w : Nat) : Option Instr :=
  match decode .bits64 false (tableBytes nbits w) with
  | .ok (i, _) => some i
  | .error _ => none

end Sys2Proof
end

