-- ==== Sys2Proof/Machine/State.lean ====
section
/-! DEFINITION. The machine's state: every piece of state the spec gives it (10_state.md), the reasons
a step can stop, and the state after reset. -/

namespace Sys2Proof.Machine

/-- A segment register (R28): its selector and what the rules use of the hidden descriptor. An access is
inside the limit when all its offsets lie from `lo` to `hi`, which folds in the expansion direction. -/
structure Segment where
  sel : BitVec 16
  base : Word
  lo : BitVec 32
  hi : BitVec 32
  null : Bool
  readable : Bool
  writable : Bool
  deriving DecidableEq, Repr

/-- The six segment registers and the bits L and D of CS (R28, R29). -/
structure Segs where
  es : Segment
  cs : Segment
  ss : Segment
  ds : Segment
  fs : Segment
  gs : Segment
  csL : Bool
  csD : Bool
  deriving DecidableEq, Repr

/-- Control registers: CR0, CR2, CR4, XCR0 and IA32_EFER (R29, R32, R316). -/
structure Ctl where
  cr0 : Word
  cr2 : Word
  cr4 : Word
  xcr0 : Word
  efer : Word
  deriving DecidableEq, Repr

/-- Model-specific registers: IA32_UMWAIT_CONTROL (R42) whole, and the named fields of
IA32_TME_ACTIVATE (R43) and IA32_TME_CAPABILITY (R44), whose places the source does not give. -/
structure Msr where
  umwaitControl : BitVec 32
  tmeLock : Bool
  tmeEnable : Bool
  tmeKeyidBits : BitVec 4
  tmeCryptoAlgs : BitVec 16
  tmeMaxKeys : BitVec 15
  deriving DecidableEq, Repr

/-- VMCS.EXIT_REASON values that a rule writes (R46). -/
inductive ExitReason
  | pconfig
  deriving DecidableEq, Repr

/-- The basic exit reason of a name (R46, R340). -/
def ExitReason.code : ExitReason → BitVec 32
  | .pconfig => 65

/-- VMX state (R46). The width of `exitReason` is the model's choice (log 4). -/
structure Vmx where
  nonRoot : Bool
  pconfigEnable : Bool
  pconfigExiting : Word
  exitReason : BitVec 32
  deriving DecidableEq, Repr

/-- TSX state (R47): `in_transaction` and the read-set. R47 calls it a set of addresses; that they are places
in memory and not linear addresses is the model's choice (DESIGN CHOICE, log 40). -/
structure Tsx where
  active : Bool
  readSet : List Nat
  deriving DecidableEq, Repr

/-- Which instruction armed the monitor last (R49). -/
inductive MonitorBy
  | umonitor | monitor
  deriving DecidableEq, Repr

/-- The monitor hardware (R49). Its range is MONITOR_RANGE of `addr`. -/
structure Monitor where
  armed : Bool
  addr : Word
  setBy : MonitorBy
  deriving DecidableEq, Repr

/-- The optimized states (R54, R347). -/
inductive OptState
  | c01 | c02
  deriving DecidableEq, Repr

/-- The two instructions that wait (R203, R204). -/
inductive WaitOp
  | tpause | umwait
  deriving DecidableEq, Repr

/-- A wait in progress (R54, R203, R204): the instruction, the state it asked for, the pair that
`Deadline()` gave (R205), its length, and whether a store to the read-set has woken it (R206 item 3). -/
structure Wait where
  op : WaitOp
  level : OptState
  deadline : Nat
  usingOs : Bool
  len : Nat
  woken : Bool
  deriving DecidableEq, Repr

/-- `wait_state` (R54). -/
inductive WaitState
  | running
  | waiting (w : Wait)
  deriving DecidableEq, Repr

/-- The events that may be pending (R55, R206 items 4 and 5). -/
inductive Event
  | externalInterrupt | nmi | smi | debugException | machineCheck | binit | init | reset
  deriving DecidableEq, Repr

/-- A holder of KEY_TABLE_LOCK (R50): this logical processor, or another one. -/
inductive Owner
  | self
  | other (n : Nat)
  deriving DecidableEq, Repr

/-- KEY_TABLE_LOCK (R50). -/
inductive KeyLock
  | unlocked
  | exclusive (o : Owner)
  deriving DecidableEq, Repr

/-- ENCRYPTION_MODE of a key-table entry (R51). -/
inductive EncMode
  | tmeKey | keyidKey | noEncryption
  deriving DecidableEq, Repr

/-- An entry of the MKTME key table (R51). -/
structure KeyEntry where
  dataKey : BitVec 128
  tweakKey : BitVec 128
  mode : EncMode
  deriving DecidableEq, Repr

/-- Memory types of a page (R70). -/
inductive MemType
  | wb | wc | uc | wp
  deriving DecidableEq, Repr

/-- The access kinds given to Translate (R315). -/
inductive Access
  | read | write
  deriving DecidableEq, Repr

/-- What a page rule gives (R74): the place in memory of its first address and the memory type, or a
fault code, whose width of 32 bits is the model's choice (DESIGN CHOICE, log 36). -/
inductive PageResult
  | ok (base : Word) (t : MemType)
  | fault (code : BitVec 32)
  deriving DecidableEq, Repr

/-- What Translate answers (R74): a place in memory and its type, or a fault code. -/
inductive Translated
  | ok (pa : Nat) (t : MemType)
  | fault (code : BitVec 32)
  deriving DecidableEq, Repr

/-- One line of the Translate function of the launch state (R74): the linear addresses from `first` to
`last`, for one access kind or both and for one CPL or all. -/
structure PageRule where
  first : Nat
  last : Nat
  access : Option Access
  cpl : Option (BitVec 2)
  result : PageResult
  deriving DecidableEq, Repr

/-- What the environment does at an instruction boundary; a store lands during the coming instruction
(R55, R71, R206, R333, R345; log 21). -/
inductive Input
  /-- An event becomes pending. -/
  | raiseEvent (e : Event)
  /-- An event is no longer pending. -/
  | lowerEvent (e : Event)
  /-- Other agents store bytes, one after another, each at a place in memory. -/
  | store (cells : List (Word × Byte))
  /-- Another logical processor acquires KEY_TABLE_LOCK, if it is unlocked. -/
  | lockKeys (n : Nat)
  /-- Another logical processor releases KEY_TABLE_LOCK, if it holds it. -/
  | unlockKeys (n : Nat)
  /-- Another logical processor that holds KEY_TABLE_LOCK writes a key-table entry, not that of KeyID 0. -/
  | programKey (n : Nat) (id : BitVec 16) (e : KeyEntry)
  deriving DecidableEq, Repr

/-- The exceptions of R311. -/
inductive Exc
  | ud | nm | ss | gp | pf | ac
  deriving DecidableEq, Repr

/-- Why the machine stops. Each is a terminal outcome by the spec (R310, R330, R340, R342, D24). -/
inductive Fault
  /-- An exception with its error code and faulting address (R316), raised by any instruction.
  Safe: the machine would enter a handler, which the spec puts out of scope. -/
  | exception (e : Exc) (code : Option (BitVec 32)) (addr : Option Word)
  /-- A VM exit, raised by PCONFIG (R340). Safe: control leaves the guest. -/
  | vmExit (r : ExitReason)
  /-- A transactional abort, raised by UMONITOR, UMWAIT and CLDEMOTE (R342). Safe: the roll-back is out
  of scope. -/
  | txAbort
  /-- RESET# ends a TPAUSE or UMWAIT wait (R206, R351). Safe: the state after RESET# is not given. -/
  | resetSignal
  deriving DecidableEq, Repr

/-- Why the model declines to go on. Every one but the first is required by the spec, and each is safe. -/
inductive Refusal
  /-- No meaning yet: raised by `exec` for an instruction named by its mnemonic. Safe. -/
  | notModelled (mnemonic : String)
  /-- A byte string that is not one of the 134 rows (R131, D9): raised by `step`. Safe. -/
  | outsideSource
  /-- EVEX extension bits outside 64-bit mode (R119, D2; log 24): raised by `step`. Safe. -/
  | evexExtension
  /-- A byte of the instruction was stored by the program since the last WBNOINVD (R86, D4): raised
  by `step`. Safe. -/
  | selfModified
  /-- Instruction bytes, or RIP + ilen, past the end of the address range (R24, D6): raised by
  `step`. Safe. -/
  | ripRange
  /-- WBNOINVD where its feature flag is 0 (R129, R145, D19). Safe. -/
  | wbnoinvdAbsent
  /-- WBNOINVD in VMX non-root operation (R340, D10). Safe. -/
  | vmxSilent
  /-- MOVDIRI, MOVDIR64B, PCONFIG or WBNOINVD in a transaction (R342, D10). Safe. -/
  | txSilent
  deriving DecidableEq, Repr

/-- A stop inside a meaning. -/
inductive Stop
  | fault (f : Fault)
  | refuse (r : Refusal)
  deriving DecidableEq, Repr

/-- The state of the machine. Every field but the last four is the spec's; those four are the model's
own: the places the program stored to (R86), the environment's inputs and the bytes that its stores
replaced since the instruction began (log 21), and the count of free values taken (log 7). -/
structure State where
  cfg : Params
  gpr : Vector Word 16
  rip : Word
  rflags : Word
  segs : Segs
  ctl : Ctl
  zmm : Vector Vec 32
  k : Vector Mask 8
  msr : Msr
  vmx : Vmx
  tsx : Tsx
  tsc : Word
  monitor : Monitor
  wait : WaitState
  pending : List Event
  keyLock : KeyLock
  keyTable : List (Nat × KeyEntry)
  mem : List Host.Cell
  pages : List PageRule
  written : List Nat
  inputs : List Input
  racing : List (Nat × Byte)
  draws : Nat
  deriving DecidableEq, Repr

/-- DESIGN CHOICE (unsafe, log 3): a flat segment, base 0 and every 32-bit offset inside it, the
"flat segments (base 0)" of the launch states of 95_test_vectors.md. R57 leaves all of it unspecified; that
the selector is 0, and that the segment is not null, is readable and is writable, are of the choice. -/
def flatSegment : Segment :=
  { sel := 0, base := 0, lo := 0, hi := 0xFFFFFFFF, null := false, readable := true,
    writable := true }

/-- DESIGN CHOICE (unsafe, log 6): the parameters after reset: every feature, MAXVL 512 and MAX_KL 64 with
them, LA_BITS 48, the recommended values of R6. -/
def resetParams : Params :=
  { features := [.cldemote, .gfni, .avx, .avx512f, .avx512vl, .movdiri, .movdir64b, .pconfig,
      .waitpkg, .vaes, .vpclmulqdq, .avx512Vbmi2, .avx512Vnni, .avx512Bitalg, .avx512Vpopcntdq,
      .wbnoinvd],
    maxvl := .v512, maxKl := 64, laBits := 48, cacheLineShift := 6, pconfigTargets := [1],
    hasVmx := false, hasTsx := false, hasSmt := false, cldemoteSetsA := false, cldemoteAbortsTsx := false,
    pconfigEntropyReleasesLock := true, gf2p8mulbFaultSuppression := true }

/-- The machine right after reset: the launch state from which the spec starts (R57, R350 to R352, D27).
The spec gives: KEY_TABLE_LOCK unlocked, every KeyID with the TME key, the wait state running, the
monitor not armed (D13), IA32_TME_ACTIVATE not locked and not enabled, no VMX non-root operation, no
transaction. Every other value is a DESIGN CHOICE (unsafe): log 2 to 6. -/
def State.reset : State :=
  { cfg := resetParams
    gpr := Vector.replicate 16 0
    rip := 0x400000
    rflags := 2
    segs := { es := flatSegment, cs := flatSegment, ss := flatSegment, ds := flatSegment,
              fs := flatSegment, gs := flatSegment, csL := true, csD := false }
    ctl := { cr0 := 1, cr2 := 0, cr4 := 0x40200, xcr0 := 0xE7, efer := 0x400 }
    zmm := Vector.replicate 32 0
    k := Vector.replicate 8 0
    msr := { umwaitControl := 0, tmeLock := false, tmeEnable := false, tmeKeyidBits := 0,
             tmeCryptoAlgs := 0, tmeMaxKeys := 0 }
    vmx := { nonRoot := false, pconfigEnable := false, pconfigExiting := 0, exitReason := 0 }
    tsx := { active := false, readSet := [] }
    tsc := 0
    monitor := { armed := false, addr := 0, setBy := .umonitor }
    wait := .running
    pending := []
    keyLock := .unlocked
    keyTable := []
    mem := []
    pages := []
    written := []
    inputs := []
    racing := []
    draws := 0 }

end Sys2Proof.Machine
end

