-- ==== Sys2Proof/Machine/Flags.lean ====
section
/-! DEFINITION. RFLAGS: the bits of R25 and the one way instructions in scope write the six status flags
(R26). No other bit of RFLAGS is written. -/

namespace Sys2Proof.Machine

/-- The six status flags CF, PF, AF, ZF, SF, OF (R25). -/
structure StatusFlags where
  cf : Bool
  pf : Bool
  af : Bool
  zf : Bool
  sf : Bool
  ovf : Bool
  deriving DecidableEq, Repr

/-- The status flags in RFLAGS (R25). -/
def statusOf (r : Word) : StatusFlags :=
  { cf := r.getLsbD 0, pf := r.getLsbD 2, af := r.getLsbD 4, zf := r.getLsbD 6,
    sf := r.getLsbD 7, ovf := r.getLsbD 11 }

/-- The bits of RFLAGS that hold the status flags: 0, 2, 4, 6, 7 and 11 (R25). -/
def statusMask : Word := 0x8D5

/-- A flag at its place in RFLAGS. -/
def flagAt (b : Bool) (n : Nat) : Word := (BitVec.ofBool b).setWidth 64 <<< n

/-- RFLAGS with the six status flags written and every other bit as it was (R26). -/
def writeStatus (r : Word) (f : StatusFlags) : Word :=
  (r &&& ~~~statusMask) |||
    (flagAt f.cf 0 ||| flagAt f.pf 2 ||| flagAt f.af 4 ||| flagAt f.zf 6 ||| flagAt f.sf 7 |||
      flagAt f.ovf 11)

/-- The flags that TPAUSE and UMWAIT leave: CF as computed, the other five 0 (R203, R204). -/
def waitFlags (cf : Bool) : StatusFlags :=
  { cf := cf, pf := false, af := false, zf := false, sf := false, ovf := false }

/-- The flags that PCONFIG leaves: ZF says failure, the other five 0 (R186). -/
def pconfigFlags (code : Nat) : StatusFlags :=
  { cf := false, pf := false, af := false, zf := code ≠ 0, sf := false, ovf := false }

end Sys2Proof.Machine
end

