-- ==== Sys2Proof/Machine/Ops.lean ====
section
/-! DEFINITION. The shared operations: sparse maps, register access, the operating mode, raising an
exception, segmentation, translation, memory reads and stores, and the monitor. -/

namespace Sys2Proof.Machine

/-! ## Sparse maps: memory and the key table in one canonical form -/

/-- The value at a key; `d` where nothing is listed. -/
def sparseGet {α : Type} (d : α) : List (Nat × α) → Nat → α
  | [], _ => d
  | (k, v) :: t, a => if a = k then v else sparseGet d t a

/-- Writes one key; writing `d` removes the entry. -/
def sparseSet {α : Type} [DecidableEq α] (d : α) :
    List (Nat × α) → Nat → α → List (Nat × α)
  | [], a, v => if v = d then [] else [(a, v)]
  | (k, w) :: t, a, v =>
    if a < k then (if v = d then (k, w) :: t else (a, v) :: (k, w) :: t)
    else if a = k then (if v = d then t else (a, v) :: t)
    else (k, w) :: sparseSet d t a v

/-- The canonical form: keys strictly rising, and no entry equal to what an unlisted key reads as. -/
abbrev sparseWf {α : Type} (d : α) (m : List (Nat × α)) : Prop :=
  m.Pairwise (fun x y => x.1 < y.1) ∧ ∀ c ∈ m, c.2 ≠ d

/-- DESIGN CHOICE (unsafe, log 5): what a byte of memory that nothing has written reads as. -/
def unlistedByte : Byte := 0

/-- The canonical form of memory. -/
abbrev Memory.wf (m : List Host.Cell) : Prop := sparseWf unlistedByte m

/-- A key-table entry that nothing has programmed: the platform's TME key (R51, R57; its key fields are
the model's 0, log 29). -/
def unlistedKey : KeyEntry := { dataKey := 0, tweakKey := 0, mode := .tmeKey }

/-- The canonical form of the key table. -/
abbrev KeyTable.wf (t : List (Nat × KeyEntry)) : Prop := sparseWf unlistedKey t

/-- An entry of the key table (R51). -/
def State.keyAt (s : State) (id : Nat) : KeyEntry := sparseGet unlistedKey s.keyTable id

/-- The key table with one entry written whole (R71, R191). -/
def State.setKey (s : State) (id : Nat) (e : KeyEntry) : State :=
  { s with keyTable := sparseSet unlistedKey s.keyTable id e }

/-! ## Registers -/

/-- GPR64 (R20). -/
def State.gprAt (s : State) (r : BitVec 4) : Word := s.gpr[r.toNat]'r.isLt

/-- ZMM (R34). -/
def State.zmmAt (s : State) (r : BitVec 5) : Vec := s.zmm[r.toNat]'r.isLt

/-- K (R38). -/
def State.kAt (s : State) (r : BitVec 3) : Mask := s.k[r.toNat]'r.isLt

/-- Writes a general register whole (R20). -/
def State.setGpr (s : State) (r : BitVec 4) (v : Word) : State :=
  { s with gpr := s.gpr.set r.toNat v r.isLt }

/-- Writes a vector register whole: a legacy form gives the old upper bits with it, a VEX or EVEX form
zeros (R36). -/
def State.setZmm (s : State) (r : BitVec 5) (v : Vec) : State :=
  { s with zmm := s.zmm.set r.toNat v r.isLt }

/-- Writes a mask register whole (R38). -/
def State.setK (s : State) (r : BitVec 3) (v : Mask) : State :=
  { s with k := s.k.set r.toNat v r.isLt }

/-- An instruction of `n` bytes completes: RIP moves past it (R13, R24). -/
def State.advance (s : State) (n : Nat) : State := { s with rip := s.rip + BitVec.ofNat 64 n }

/-- EAX (R21). -/
def State.eax (s : State) : BitVec 32 := (s.gprAt 0).setWidth 32

/-- EDX (R21). -/
def State.edx (s : State) : BitVec 32 := (s.gprAt 2).setWidth 32

/-! ## Mode and privilege -/

/-- The operating mode (R31; log 31 for combinations of the bits that R31 does not list). -/
def State.mode (s : State) : Mode :=
  if s.ctl.cr0.getLsbD 0 = false then .real
  else if s.ctl.efer.getLsbD 10 then (if s.segs.csL then .bits64 else .compat)
  else if s.rflags.getLsbD 17 then .v86
  else .prot

/-- CPL (R30). -/
def State.cpl (s : State) : BitVec 2 :=
  match s.mode with
  | .real => 0
  | .v86 => 3
  | _ => s.segs.ss.sel.extractLsb' 0 2

/-- Whether every one of the flags counts as 1 (R129). -/
def State.hasAll (s : State) (fs : List Feature) : Bool := fs.all s.cfg.has

/-- `in_vmx_non_root`: always false where HAS_VMX is (R46). -/
def State.inGuest (s : State) : Bool := s.cfg.hasVmx && s.vmx.nonRoot

/-- `in_transaction`: false where HAS_TSX is (R6, R47, R342). -/
def State.inTx (s : State) : Bool := s.cfg.hasTsx && s.tsx.active

/-- SSE_ENABLED (R32). -/
def State.sseEnabled (s : State) : Bool := !s.ctl.cr0.getLsbD 2 && s.ctl.cr4.getLsbD 9

/-- AVX_ENABLED (R32). -/
def State.avxEnabled (s : State) : Bool :=
  s.ctl.cr4.getLsbD 18 && s.ctl.xcr0.extractLsb' 1 2 = 3

/-- AVX512_ENABLED (R32). -/
def State.avx512Enabled (s : State) : Bool :=
  s.avxEnabled && s.ctl.xcr0.extractLsb' 5 3 = 7

/-- CR0.TS (R32). -/
def State.taskSwitched (s : State) : Bool := s.ctl.cr0.getLsbD 3

/-- Alignment checking is enabled: CR0.AM, RFLAGS.AC and CPL 3 (R69). -/
def State.alignChecked (s : State) : Bool :=
  s.ctl.cr0.getLsbD 18 && s.rflags.getLsbD 18 && s.cpl = 3

/-! ## Raising an exception -/

/-- Stops with `e` where `c` holds. -/
def stopIf (c : Bool) (e : Stop) : Except Stop Unit := if c then .error e else .ok ()

/-- Taking an exception (R12, R316, R330): the terminal outcome `Fault(vector, code, address)`. In
real-address mode no error code is pushed (R66, R313). -/
def State.raise (s : State) (e : Exc) (code : Option (BitVec 32)) (addr : Option Word) : Stop :=
  .fault (.exception e (if s.mode = .real then none else code) addr)

/-- #UD. -/
def State.ud (s : State) : Stop := s.raise .ud none none

/-- #NM. -/
def State.nm (s : State) : Stop := s.raise .nm none none

/-- #GP(0). -/
def State.gp (s : State) : Stop := s.raise .gp (some 0) none

/-- #AC(0). -/
def State.ac (s : State) : Stop := s.raise .ac (some 0) none

/-- #PF(code) at a linear address. -/
def State.pf (s : State) (code : BitVec 32) (a : Nat) : Stop :=
  s.raise .pf (some code) (some (BitVec.ofNat 64 a))

/-- Vector numbers (R311). -/
def Exc.vector : Exc → Nat
  | .ud => 6
  | .nm => 7
  | .ss => 12
  | .gp => 13
  | .pf => 14
  | .ac => 17

/-- The state a stop leaves: as before the instruction (R331), but that #PF records its address in CR2
(R74, R316) and a VM exit writes VMCS.EXIT_REASON (R46, R340). A faulting step answers no state; this
says what it is (log 13). No rule gives the state that RESET# leaves (R350, R351); that it is recorded as the
state before is the model's choice (DESIGN CHOICE, log 28). -/
def State.recordStop (s : State) : Fault → State
  | .exception .pf _ (some a) => { s with ctl := { s.ctl with cr2 := a } }
  | .exception _ _ _ => s
  | .vmExit r => { s with vmx := { s.vmx with exitReason := r.code } }
  | .txAbort => s
  | .resetSignal => s

/-- A stop as an outcome of a step. -/
def Stop.outcome : Stop → Host.Outcome State Fault Refusal
  | .fault f => .fault f
  | .refuse r => .refused r

/-- A meaning's result as an outcome of a step. -/
def finish : Except Stop State → Host.Outcome State Fault Refusal
  | .ok s => .next s
  | .error e => e.outcome

/-! ## From an effective address to memory -/

/-- A segment register's contents (R28). -/
def State.seg (s : State) : SegReg → Segment
  | .es => s.segs.es
  | .cs => s.segs.cs
  | .ss => s.segs.ss
  | .ds => s.segs.ds
  | .fs => s.segs.fs
  | .gs => s.segs.gs

/-- The linear address of an offset in a segment (R66): in 64-bit mode only FS and GS have a base; in
real-address and virtual-8086 mode the base is the selector times 16. -/
def State.linear (s : State) (r : SegReg) (ea : Word) : Word :=
  match s.mode with
  | .bits64 =>
    match r with
    | .fs => s.segs.fs.base + ea
    | .gs => s.segs.gs.base + ea
    | _ => ea
  | .prot | .compat => ((s.seg r).base + ea).setWidth 32 |>.setWidth 64
  | .real | .v86 => ((s.seg r).sel.setWidth 64 <<< 4) + ea

/-- Canonical addresses: bits 63 down to LA_BITS - 1 are all equal (R66). -/
def canonical (laBits : Nat) (a : Word) : Bool :=
  a.toNat < 2 ^ (laBits - 1) || 2 ^ 64 - 2 ^ (laBits - 1) ≤ a.toNat

/-- Whether the `n` ≥ 1 bytes from an offset may be accessed in a segment (R66). In 64-bit mode the
bytes of an operand follow each other modulo 2^64 (PRESUMED, log 26). -/
def State.segOk (s : State) (r : SegReg) (ea : Word) (n : Nat) (acc : Access) : Bool :=
  match s.mode with
  | .bits64 =>
    let la := s.linear r ea
    canonical s.cfg.laBits la && canonical s.cfg.laBits (la + BitVec.ofNat 64 (n - 1))
  | .prot | .compat =>
    let g := s.seg r
    !g.null && g.lo.toNat ≤ ea.toNat && ea.toNat + (n - 1) ≤ g.hi.toNat &&
    (match acc with
      | .read => g.readable
      | .write => g.writable)
  | .real | .v86 => ea.toNat + (n - 1) ≤ 0xFFFF

/-- The exception for an illegal address in a segment (R66, R313): #SS for SS and #GP for the others;
in real-address and virtual-8086 mode #GP for all. -/
def State.segExc (s : State) (r : SegReg) : Exc :=
  if r = .ss ∧ s.mode ≠ .real ∧ s.mode ≠ .v86 then .ss else .gp

/-- The linear address of an operand, or the given exception with code 0 where it is illegal. -/
def State.checkLinear (s : State) (e : Exc) (r : SegReg) (ea : Word) (n : Nat) (acc : Access) :
    Except Stop Word :=
  if s.segOk r ea n acc then .ok (s.linear r ea) else .error (s.raise e (some 0) none)

/-- `LA(seg, ea, n, kind)` (R66). UMONITOR alone has exceptions of its own. -/
def State.checkSegment (s : State) (r : SegReg) (ea : Word) (n : Nat) (acc : Access) :
    Except Stop Word :=
  s.checkLinear (s.segExc r) r ea n acc

/-- The address of the `i`-th byte of an operand, modulo 2^64 in 64-bit mode and 2^32 in the others
(R60, R66; PRESUMED, log 26). -/
def State.byteAddr (s : State) (la : Word) (i : Nat) : Nat :=
  (la.toNat + i) % (if s.mode = .bits64 then 2 ^ 64 else 2 ^ 32)

/-- The addresses of the `n` bytes of an operand, in order. -/
def State.span (s : State) (la : Word) (n : Nat) : List Nat := (List.range n).map (s.byteAddr la)

/-- Whether a page rule speaks of an access. -/
def PageRule.covers (r : PageRule) (acc : Access) (cpl : BitVec 2) (a : Nat) : Bool :=
  r.first ≤ a && a ≤ r.last && (r.access.isNone || r.access = some acc) &&
  (r.cpl.isNone || r.cpl = some cpl)

/-- Translate (R74): the first page rule that covers the access decides; where none does, the place is the
address itself, in write-back memory (log 15). In real-address mode there is no page fault. -/
def State.translate (s : State) (acc : Access) (a : Nat) : Translated :=
  match s.pages.find? (fun r => r.covers acc s.cpl a) with
  | some r =>
    match r.result with
    | .ok base t => .ok ((base.toNat + (a - r.first)) % 2 ^ 64) t
    | .fault c => if s.mode = .real then .ok a .wb else .fault c
  | none => .ok a .wb

/-- The place in memory of a linear address for an access: the `pa` of R74. What is given for an address
that does not translate is of no concern to an access, which has faulted, and is the address itself for
a fetch (log 16). -/
def State.place (s : State) (acc : Access) (a : Nat) : Nat :=
  match s.translate acc a with
  | .ok pa _ => pa
  | .fault _ => a

/-- The places in memory of the `n` bytes of an operand, in order. -/
def State.places (s : State) (acc : Access) (la : Word) (n : Nat) : List Nat :=
  (s.span la n).map (s.place acc)

/-- The first byte of an access that does not translate, with its fault code. -/
def State.pageFault (s : State) (acc : Access) : List Nat → Option (Nat × BitVec 32)
  | [] => none
  | a :: t =>
    match s.translate acc a with
    | .fault c => some (a, c)
    | .ok _ _ => s.pageFault acc t

/-- Translation of every byte of an access, lowest first: #PF(code) or nothing (R74, R312). -/
def State.checkPages (s : State) (acc : Access) (addrs : List Nat) : Except Stop Unit :=
  match s.pageFault acc addrs with
  | some (a, c) => .error (s.pf c a)
  | none => .ok ()

/-- The checks of R66 and R74 on pieces of an operand, each an offset and a length, in order: the first
piece that fails is reported (R322; log 20). -/
def State.checkPieces (s : State) (r : SegReg) (ea : Word) (acc : Access) :
    List (Nat × Nat) → Except Stop Unit
  | [] => .ok ()
  | (off, n) :: t => do
    let la ← s.checkSegment r (ea + BitVec.ofNat 64 off) n acc
    s.checkPages acc (s.span la n)
    s.checkPieces r ea acc t

/-! ## Reading and storing -/

/-- One byte of memory, by its place. -/
def State.byteAt (s : State) (pa : Nat) : Byte := sparseGet unlistedByte s.mem pa

/-- The values that a byte of memory held since the instruction began, but the last: what the stores of
other agents replaced (R71; log 21). -/
def State.earlier (s : State) (pa : Nat) : List Byte :=
  (s.racing.filter fun c => c.1 = pa).map (·.2)

/-- The byte that a load finds at a linear address. No load in scope is atomic, so where another agent
stores to it during the instruction it is any of the values that memory holds (R71). -/
def State.readAt (s : State) (a : Nat) : Byte :=
  let pa := s.place .read a
  (s.earlier pa).getD (Config.tornByte s.draws pa) (s.byteAt pa)

/-- The number whose bytes are given, lowest first (R62). -/
def fromBytes : List Byte → Nat
  | [] => 0
  | b :: t => b.toNat + 256 * fromBytes t

/-- `MemRead(la, n)` as a value of `w` bits (R62). -/
def State.load (s : State) (la : Word) (n w : Nat) : BitVec w :=
  BitVec.ofNat w (fromBytes ((s.span la n).map s.readAt))

/-- The bytes of a value, lowest first (R62). -/
def toBytes {w : Nat} (n : Nat) (v : BitVec w) : List Byte := numBytes n v.toNat

/-- Memory after bytes are written at addresses, in order. -/
def writeBytes (m : List Host.Cell) : List Nat → List Byte → List Host.Cell
  | a :: as, b :: bs => writeBytes (sparseSet unlistedByte m a b) as bs
  | _, _ => m

/-- Whether a linear address is in the monitored range; the monitored address itself always is (R201). -/
def Monitor.covers (m : Monitor) (a : Nat) : Bool :=
  a = m.addr.toNat || Config.monitorCovers m.addr (BitVec.ofNat 64 a)

/-- Linear addresses that may have a place in memory: the place itself, and the one that each page rule
would give it. -/
def State.aliases (s : State) (pa : Nat) : List Nat :=
  pa :: s.pages.filterMap fun r =>
    match r.result with
    | .ok base _ => some (r.first + (BitVec.ofNat 64 pa - base).toNat)
    | .fault _ => none

/-- The memory types under which a linear address has a place, for a read or for a write (R70, R74). -/
def State.typesOf (s : State) (a pa : Nat) : List MemType :=
  [Access.read, Access.write].filterMap fun acc =>
    match s.translate acc a with
    | .ok p t => if p = pa then some t else none
    | .fault _ => none

/-- The memory types of the monitored addresses that have one of the places stored to. -/
def State.monitoredTypes (s : State) (pas : List Nat) : List MemType :=
  pas.flatMap fun pa => ((s.aliases pa).filter s.monitor.covers).flatMap fun a => s.typesOf a pa

/-- Whether a store to the places triggers the monitor (R49, R70, R201, R212): certainly in memory that is
write-back for a read or for a write, by a free value elsewhere (log 11). -/
def State.triggers (s : State) (pas : List Nat) : Bool :=
  s.monitor.armed &&
  ((s.monitoredTypes pas).contains .wb ||
    (!(s.monitoredTypes pas).isEmpty && Config.nonWbTriggers s.draws))

/-- A store by any agent reaches memory; it may trigger the monitor (R49, R62). -/
def State.landStore (s : State) (pas : List Nat) (bs : List Byte) : State :=
  { s with
    mem := writeBytes s.mem pas bs
    monitor := if s.triggers pas then { s.monitor with armed := false } else s.monitor
    draws := s.draws + 1 }

/-- A store by the program, all its checks done (R87, R172): the places are now ones the program has
written (R86). -/
def State.store (s : State) (la : Word) (bs : List Byte) : State :=
  let pas := s.places .write la bs.length
  { s.landStore pas bs with written := pas ++ s.written }

/-- The bytes that a sequence of stores replaces, each with its place. -/
def replacedBytes (m : List Host.Cell) : List Nat → List Byte → List (Nat × Byte)
  | a :: as, b :: bs =>
    (a, sparseGet unlistedByte m a) :: replacedBytes (sparseSet unlistedByte m a b) as bs
  | _, _ => []

end Sys2Proof.Machine
end

