-- ==== Sys2Proof/Machine/Operands.lean ====
section
/-! DEFINITION. Operands: effective addresses, vector elements, masking and broadcast, the checks that
every vector instruction makes, and its source operands (R97 to R123, R318 to R322). -/

namespace Sys2Proof.Machine

/-! ## Effective addresses -/

/-- The low part of a value at an address size (R61). -/
def truncA (a : ASize) (v : Word) : Word :=
  match a with
  | .a16 => (v.setWidth 16).setWidth 64
  | .a32 => (v.setWidth 32).setWidth 64
  | .a64 => v

/-- The address size of an instruction (R100). -/
def State.asize (s : State) (p : Pfx) : ASize := addrSize s.mode s.segs.csD p

/-- A displacement, sign-extended; an 8-bit one is scaled (R99, R122). -/
def Disp.value (scale : Nat) : Disp → Word
  | .none => 0
  | .d8 v => v.signExtend 64 * BitVec.ofNat 64 scale
  | .d16 v => v.signExtend 64
  | .d32 v => v.signExtend 64

/-- The base of 16-bit addressing (R102). -/
def State.base16 (s : State) (rm : BitVec 3) : Word :=
  if rm = 0 then s.gprAt 3 + s.gprAt 6
  else if rm = 1 then s.gprAt 3 + s.gprAt 7
  else if rm = 2 then s.gprAt 5 + s.gprAt 6
  else if rm = 3 then s.gprAt 5 + s.gprAt 7
  else if rm = 4 then s.gprAt 6
  else if rm = 5 then s.gprAt 7
  else if rm = 6 then s.gprAt 5
  else s.gprAt 3

/-- The index of a SIB byte times its scale; number 4 is no index (R101). -/
def State.index (s : State) (a : ASize) (scale : BitVec 2) (i : BitVec 4) : Word :=
  if i = 4 then 0 else truncA a (s.gprAt i) <<< scale.toNat

/-- The effective address of a memory operand (R101 to R103); `next` is the address after the
instruction, `scale` the factor of an 8-bit displacement. -/
def State.effAddr (s : State) (a : ASize) (next : Word) (scale : Nat) (m : Mem) : Word :=
  truncA a <|
    match m with
    | .a16 rm d => s.base16 rm + Disp.value scale d
    | .abs16 v => v.setWidth 64
    | .rel v => (if s.mode = .bits64 then next else 0) + v.signExtend 64
    | .base b d => truncA a (s.gprAt b) + Disp.value scale d
    | .sib sc i b d => truncA a (s.gprAt b) + s.index a sc i + Disp.value scale d
    | .sibAbs sc i v => s.index a sc i + v.signExtend 64

/-- The segment of a memory operand without an override: SS for a base rSP or rBP, else DS (R67, R101,
R102). -/
def defaultSeg : Mem → SegReg
  | .a16 rm _ => if rm = 2 ∨ rm = 3 ∨ rm = 6 then .ss else .ds
  | .abs16 _ => .ds
  | .rel _ => .ds
  | .base b _ => if b = 4 ∨ b = 5 then .ss else .ds
  | .sib _ _ b _ => if b = 4 ∨ b = 5 then .ss else .ds
  | .sibAbs _ _ _ => .ds

/-- The segment of a memory operand (R67, R93): in 64-bit mode an override other than FS and GS is
ignored. -/
def State.segOf (s : State) (p : Pfx) (m : Mem) : SegReg :=
  match p.override with
  | none => defaultSeg m
  | some r =>
    if s.mode = .bits64 ∧ r ≠ .fs ∧ r ≠ .gs then defaultSeg m else r

/-- The effective address of the memory operand of an instruction of `len` bytes. -/
def State.operandAddr (s : State) (p : Pfx) (len scale : Nat) (m : Mem) : Word :=
  s.effAddr (s.asize p) (s.rip + BitVec.ofNat 64 len) scale m

/-! ## Vector elements -/

/-- Element `j` of width `w` (R8). -/
def elem (w : Nat) (v : Vec) (j : Nat) : BitVec w := v.extractLsb' (w * j) w

/-- The vector whose elements 0 to `n` - 1 of width `w` are given and whose other bits are 0 (R36). -/
def pack (w : Nat) : Nat → (Nat → BitVec w) → Vec
  | 0, _ => 0
  | n + 1, f => pack w n f ||| ((f n).setWidth 512 <<< (w * n))

/-- A vector's length in bytes (R118). -/
def vlBytes : VL → Nat
  | .v128 => 16
  | .v256 => 32
  | .v512 => 64

/-- How many elements of `w` bits a vector has: KL of R14. -/
def vlElems (vl : VL) (w : Nat) : Nat := 8 * vlBytes vl / w

/-- Whether element `j` is active: its bit of the writemask K[aaa], and always where `aaa` is 000, "no
writemask" (R15, R120). -/
def State.active (s : State) (aaa : BitVec 3) (j : Nat) : Bool :=
  aaa = 0 || (s.kAt aaa).getLsbD j

/-- The vector result under a writemask: active elements are computed, others zeroed or kept, and the
bits above the vector length are 0 (R120, R123). -/
def State.masked (s : State) (w n : Nat) (aaa : BitVec 3) (z : Bool) (old : Vec)
    (f : Nat → BitVec w) : Vec :=
  pack w n fun j => if s.active aaa j then f j else if z then 0 else elem w old j

/-- The active elements among the first `n`, in order. -/
def State.actives (s : State) (aaa : BitVec 3) (n : Nat) : List Nat :=
  (List.range n).filter (s.active aaa)

/-! ## The checks of the vector formats -/

/-- VEX and EVEX forms do not exist in real-address and virtual-8086 mode (R109, R115). -/
def State.noVectorMode (s : State) : Bool := s.mode = .real || s.mode = .v86

/-- What a legacy-SSE form checks first: #UD, then #NM (R318, R319). -/
def State.enterSse (s : State) (p : Pfx) (fs : List Feature) : Except Stop Unit := do
  stopIf (p.has .lock) s.ud
  stopIf (!s.hasAll fs) s.ud
  stopIf (!s.sseEnabled) s.ud
  stopIf s.taskSwitched s.nm

/-- The vector length of a VEX form by `VEX.L` (R112). -/
def vexLength (l : Bool) : VL := if l then .v256 else .v128

/-- What a VEX form checks first: #UD, then #NM (R318, R319). That a form whose operands are wider than
MAXVL is #UD is DEDUCED (log 6). -/
def State.enterVex (s : State) (r : VexRow) (vl : VL) (o : VexOps) : Except Stop Unit := do
  stopIf (badBeforeVector o.pfx) s.ud
  stopIf s.noVectorMode s.ud
  stopIf (!s.hasAll r.feats) s.ud
  stopIf (s.cfg.maxvl.bits < 8 * vlBytes vl) s.ud
  stopIf (!s.avxEnabled) s.ud
  stopIf s.taskSwitched s.nm

/-- The flags a row requires at a vector length (R129). -/
def rowFeatures (r : EvexRow) (vl : VL) : List Feature :=
  match vl with
  | .v512 => if r.needsF then .avx512f :: r.feats else r.feats
  | _ => .avx512vl :: r.feats

/-- What an EVEX form checks first: #UD, then #NM (R318, R320, R321). -/
def State.enterEvex (s : State) (r : EvexRow) (vl : VL) (o : EvexOps Rm) : Except Stop Unit := do
  stopIf (badBeforeVector o.pfx) s.ud
  stopIf s.noVectorMode s.ud
  stopIf (evexReserved r o) s.ud
  stopIf (!s.hasAll (rowFeatures r vl)) s.ud
  stopIf (!s.avx512Enabled) s.ud
  stopIf s.taskSwitched s.nm

/-! ## Source operands -/

/-- The `ModRM:r/m` source of a legacy-SSE form, its low 128 bits: a register, or 16 bytes that must be
16-byte aligned, else #GP(0) (R68, R319). That the linear address is tested, and not the offset, is the
model's choice (DESIGN CHOICE, log 37). -/
def State.sseSource (s : State) (p : Pfx) (len : Nat) (rm : Rm) : Except Stop Vec :=
  match rm with
  | .reg r => .ok (s.zmmAt r)
  | .mem m => do
    let la ← s.checkSegment (s.segOf p m) (s.operandAddr p len 1 m) 16 .read
    stopIf (la.toNat % 16 ≠ 0) s.gp
    s.checkPages .read (s.span la 16)
    .ok (s.load la 16 512)

/-- The `ModRM:r/m` source of a VEX form of `n` bytes; no alignment is required (R68). -/
def State.vexSource (s : State) (p : Pfx) (len n : Nat) (rm : Rm) : Except Stop Vec :=
  match rm with
  | .reg r => .ok (s.zmmAt r)
  | .mem m => do
    let ea := s.operandAddr p len 1 m
    s.checkPieces (s.segOf p m) ea .read [(0, n)]
    .ok (s.load (s.linear (s.segOf p m) ea) n 512)

/-- Whether masked-off elements of a row's memory operand are not accessed (R161, R320 to R322). -/
def State.suppresses (s : State) (r : EvexRow) : Bool :=
  match r.suppress with
  | .always => true
  | .never => false
  | .byParam => s.cfg.gf2p8mulbFaultSuppression

/-- The scale of an 8-bit displacement (R122). -/
def dispScale (r : EvexRow) (vl : VL) (b : Bool) : Nat :=
  match r.tuple with
  | .full => if b then r.bcst else vlBytes vl
  | .fullMem => vlBytes vl
  | .scalar => r.elem

/-- The pieces of a full-vector or broadcast memory operand that are accessed (R322): the whole of it,
or, with fault suppression and a writemask, the active elements; a broadcast element when any element
is active. -/
def State.pieces (s : State) (r : EvexRow) (vl : VL) (aaa : BitVec 3) (b : Bool) :
    List (Nat × Nat) :=
  let act := s.actives aaa (vlBytes vl / r.elem)
  if b then (if s.suppresses r && act.isEmpty then [] else [(0, r.bcst)])
  else if s.suppresses r && aaa ≠ 0 then act.map (fun j => (j * r.elem, r.elem))
  else [(0, vlBytes vl)]

/-- The effective address of the memory operand of an EVEX form. -/
def State.evexAddr (s : State) (r : EvexRow) (vl : VL) (o : EvexOps Rm) (m : Mem) : Word :=
  s.operandAddr o.pfx (Form.evex r vl o 0).len (dispScale r vl o.b) m

/-- The `ModRM:r/m` source of an EVEX form: a register, the memory operand, or one element of it at
every position (R121, R322). -/
def State.evexSource (s : State) (r : EvexRow) (vl : VL) (o : EvexOps Rm) : Except Stop Vec :=
  match o.rm with
  | .reg g => .ok (s.zmmAt g)
  | .mem m => do
    let ea := s.evexAddr r vl o m
    let sg := s.segOf o.pfx m
    s.checkPieces sg ea .read (s.pieces r vl o.aaa o.b)
    let la := s.linear sg ea
    if o.b then
      let e : BitVec (8 * r.bcst) := s.load la r.bcst (8 * r.bcst)
      .ok (pack (8 * r.bcst) (vlBytes vl / r.bcst) fun _ => e)
    else .ok (s.load la (vlBytes vl) 512)

/-! ## Whole vector instructions -/

/-- The low 128 bits replaced and the bits above them kept (R36). -/
def keepUpper (old new : Vec) : Vec := (old >>> 128 <<< 128) ||| (new <<< 384 >>> 384)

/-- A legacy-SSE form with `n` result elements of width `w`: `f` of the destination's old value and the
`ModRM:r/m` source gives each (R36, R153, R156, R159). -/
def sseOp (i : Form) (p : Pfx) (fs : List Feature) (reg : BitVec 4) (rm : Rm) (w n : Nat)
    (f : Vec → Vec → Nat → BitVec w) (s : State) : Host.Outcome State Fault Refusal :=
  finish do
    s.enterSse p fs
    let src ← s.sseSource p i.len rm
    let old := s.zmmAt (reg.setWidth 5)
    .ok ((s.setZmm (reg.setWidth 5) (keepUpper old (pack w n (f old src)))).advance i.len)

/-- A VEX form at 128 (`false`) or 256 bits with result elements of width `w`: `f` of the two sources
gives each; the bits above are zeroed (R36, R114). -/
def vexOp (r : VexRow) (l : Bool) (o : VexOps) (w : Nat) (f : Vec → Vec → Nat → BitVec w)
    (s : State) : Host.Outcome State Fault Refusal :=
  finish do
    let vl := vexLength l
    s.enterVex r vl o
    let len := (Form.vex r l o 0).len
    let src2 ← s.vexSource o.pfx len (vlBytes vl) o.rm
    let v := pack w (vlElems vl w) (f (s.zmmAt (o.vvvv.setWidth 5)) src2)
    .ok ((s.setZmm (o.reg.setWidth 5) v).advance len)

/-- An EVEX form with a vector destination and result elements of width `w`: `f` of the destination's
old value and the two sources gives each; then the writemask (R120, R123). -/
def evexOp (r : EvexRow) (vl : VL) (o : EvexOps Rm) (w : Nat) (f : Vec → Vec → Vec → Nat → BitVec w)
    (s : State) : Host.Outcome State Fault Refusal :=
  finish do
    s.enterEvex r vl o
    let src2 ← s.evexSource r vl o
    let old := s.zmmAt o.reg
    let v := s.masked w (vlElems vl w) o.aaa o.z old (f old (s.zmmAt o.vvvv) src2)
    .ok ((s.setZmm o.reg v).advance (Form.evex r vl o 0).len)

end Sys2Proof.Machine
end

