-- ==== Sys2Proof/Machine/Gfni.lean ====
section
/-! DEFINITION. GFNI (41_gfni.md): affine map, affine map of the inverse, and product in GF(2^8) with the
polynomial x^8 + x^4 + x^3 + x + 1. -/

namespace Sys2Proof.Machine

/-- `parity(x)`: the XOR of the bits of a byte (R150). -/
def parity (x : Byte) : Bool :=
  x.getLsbD 0 ^^ x.getLsbD 1 ^^ x.getLsbD 2 ^^ x.getLsbD 3 ^^
  x.getLsbD 4 ^^ x.getLsbD 5 ^^ x.getLsbD 6 ^^ x.getLsbD 7

/-- Byte `i` of a quadword (R8). -/
def qbyte (q : Word) (i : Nat) : Byte := q.extractLsb' (8 * i) 8

/-- A byte from its bits, bit 0 first. -/
def byteOfBits (f : Nat → Bool) : Byte :=
  BitVec.ofBool (f 7) ++ BitVec.ofBool (f 6) ++ BitVec.ofBool (f 5) ++ BitVec.ofBool (f 4) ++
  BitVec.ofBool (f 3) ++ BitVec.ofBool (f 2) ++ BitVec.ofBool (f 1) ++ BitVec.ofBool (f 0)

/-- `affine_byte` (R151): bit `i` is the parity of row `i` of the matrix, which is byte `7 - i` of the
quadword, ANDed with `x`, XOR bit `i` of the constant. -/
def affineByte (a : Word) (x imm : Byte) : Byte :=
  byteOfBits fun i => parity (qbyte a (7 - i) &&& x) ^^ imm.getLsbD i

/-- Table 2-1, Inverse Byte Listings: entry `x` is the inverse of `x` (R152). -/
def inverseTable : List Byte :=
  [0x00, 0x01, 0x8D, 0xF6, 0xCB, 0x52, 0x7B, 0xD1, 0xE8, 0x4F, 0x29, 0xC0, 0xB0, 0xE1, 0xE5, 0xC7] ++
  [0x74, 0xB4, 0xAA, 0x4B, 0x99, 0x2B, 0x60, 0x5F, 0x58, 0x3F, 0xFD, 0xCC, 0xFF, 0x40, 0xEE, 0xB2] ++
  [0x3A, 0x6E, 0x5A, 0xF1, 0x55, 0x4D, 0xA8, 0xC9, 0xC1, 0x0A, 0x98, 0x15, 0x30, 0x44, 0xA2, 0xC2] ++
  [0x2C, 0x45, 0x92, 0x6C, 0xF3, 0x39, 0x66, 0x42, 0xF2, 0x35, 0x20, 0x6F, 0x77, 0xBB, 0x59, 0x19] ++
  [0x1D, 0xFE, 0x37, 0x67, 0x2D, 0x31, 0xF5, 0x69, 0xA7, 0x64, 0xAB, 0x13, 0x54, 0x25, 0xE9, 0x09] ++
  [0xED, 0x5C, 0x05, 0xCA, 0x4C, 0x24, 0x87, 0xBF, 0x18, 0x3E, 0x22, 0xF0, 0x51, 0xEC, 0x61, 0x17] ++
  [0x16, 0x5E, 0xAF, 0xD3, 0x49, 0xA6, 0x36, 0x43, 0xF4, 0x47, 0x91, 0xDF, 0x33, 0x93, 0x21, 0x3B] ++
  [0x79, 0xB7, 0x97, 0x85, 0x10, 0xB5, 0xBA, 0x3C, 0xB6, 0x70, 0xD0, 0x06, 0xA1, 0xFA, 0x81, 0x82] ++
  [0x83, 0x7E, 0x7F, 0x80, 0x96, 0x73, 0xBE, 0x56, 0x9B, 0x9E, 0x95, 0xD9, 0xF7, 0x02, 0xB9, 0xA4] ++
  [0xDE, 0x6A, 0x32, 0x6D, 0xD8, 0x8A, 0x84, 0x72, 0x2A, 0x14, 0x9F, 0x88, 0xF9, 0xDC, 0x89, 0x9A] ++
  [0xFB, 0x7C, 0x2E, 0xC3, 0x8F, 0xB8, 0x65, 0x48, 0x26, 0xC8, 0x12, 0x4A, 0xCE, 0xE7, 0xD2, 0x62] ++
  [0x0C, 0xE0, 0x1F, 0xEF, 0x11, 0x75, 0x78, 0x71, 0xA5, 0x8E, 0x76, 0x3D, 0xBD, 0xBC, 0x86, 0x57] ++
  [0x0B, 0x28, 0x2F, 0xA3, 0xDA, 0xD4, 0xE4, 0x0F, 0xA9, 0x27, 0x53, 0x04, 0x1B, 0xFC, 0xAC, 0xE6] ++
  [0x7A, 0x07, 0xAE, 0x63, 0xC5, 0xDB, 0xE2, 0xEA, 0x94, 0x8B, 0xC4, 0xD5, 0x9D, 0xF8, 0x90, 0x6B] ++
  [0xB1, 0x0D, 0xD6, 0xEB, 0xC6, 0x0E, 0xCF, 0xAD, 0x08, 0x4E, 0xD7, 0xE3, 0x5D, 0x50, 0x1E, 0xB3] ++
  [0x5B, 0x23, 0x38, 0x34, 0x68, 0x46, 0x03, 0x8C, 0xDD, 0x9C, 0x7D, 0xA0, 0xCD, 0x1A, 0x41, 0x1C]

/-- `inverse(x)` in GF(2^8), with inverse(0) = 0 (R152). -/
def gfInverse (x : Byte) : Byte := inverseTable.getD x.toNat 0

/-- `affine_inverse_byte` (R153). -/
def affineInverseByte (a : Word) (x imm : Byte) : Byte := affineByte a (gfInverse x) imm

/-- The first loop of `gf2p8mul_byte` (R162): the carry-less product of two bytes, over the `n` low bits
of the second. -/
def gfProduct (a b : Byte) : Nat → BitVec 16
  | 0 => 0
  | n + 1 => gfProduct a b n ^^^ (if b.getLsbD n then a.setWidth 16 <<< n else 0)

/-- The second loop of `gf2p8mul_byte` (R162): reduction by 11BH of the bits 7 + `n` down to 8. -/
def gfReduce : Nat → BitVec 16 → BitVec 16
  | 0, t => t
  | n + 1, t => gfReduce n (if t.getLsbD (8 + n) then t ^^^ (0x11B#16 <<< n) else t)

/-- `gf2p8mul_byte` (R162). -/
def gf2p8MulByte (a b : Byte) : Byte := (gfReduce 7 (gfProduct a b 8)).setWidth 8

/-! ## Elements -/

/-- A result byte of GF2P8AFFINEINVQB: matrices in `m`, bytes in `x`; byte `j` uses matrix `j / 8`
(R153 to R155, R165). -/
def affineInvElem (imm : Byte) (x m : Vec) (j : Nat) : Byte :=
  affineInverseByte (elem 64 m (j / 8)) (elem 8 x j) imm

/-- A result byte of GF2P8AFFINEQB (R156 to R158, R165). -/
def affineElem (imm : Byte) (x m : Vec) (j : Nat) : Byte :=
  affineByte (elem 64 m (j / 8)) (elem 8 x j) imm

/-- A result byte of GF2P8MULB (R159 to R161). -/
def gfMulElem (x y : Vec) (j : Nat) : Byte := gf2p8MulByte (elem 8 x j) (elem 8 y j)

/-! ## Legacy-SSE forms -/

/-- GF2P8AFFINEINVQB xmm1, xmm2/m128, imm8 (R153). -/
def execGf2p8affineinvqb (p : Pfx) (reg : BitVec 4) (rm : Rm) (imm : Byte) (s : State) :
    Host.Outcome State Fault Refusal :=
  sseOp (Instr.gf2p8affineinvqb p reg rm imm).form p [.gfni] reg rm 8 16 (affineInvElem imm) s

/-- GF2P8AFFINEQB xmm1, xmm2/m128, imm8 (R156). -/
def execGf2p8affineqb (p : Pfx) (reg : BitVec 4) (rm : Rm) (imm : Byte) (s : State) :
    Host.Outcome State Fault Refusal :=
  sseOp (Instr.gf2p8affineqb p reg rm imm).form p [.gfni] reg rm 8 16 (affineElem imm) s

/-- GF2P8MULB xmm1, xmm2/m128 (R159). -/
def execGf2p8mulb (p : Pfx) (reg : BitVec 4) (rm : Rm) (s : State) :
    Host.Outcome State Fault Refusal :=
  sseOp (Instr.gf2p8mulb p reg rm).form p [.gfni] reg rm 8 16 gfMulElem s

/-! ## VEX forms -/

/-- VGF2P8AFFINEINVQB, VEX, 128 bits (R154). -/
def execVgf2p8affineinvqbVex128 (o : VexOps) (imm : Byte) (s : State) :
    Host.Outcome State Fault Refusal :=
  vexOp VOp.vgf2p8affineinvqb.row false o 8 (affineInvElem imm) s

/-- VGF2P8AFFINEINVQB, VEX, 256 bits (R154). -/
def execVgf2p8affineinvqbVex256 (o : VexOps) (imm : Byte) (s : State) :
    Host.Outcome State Fault Refusal :=
  vexOp VOp.vgf2p8affineinvqb.row true o 8 (affineInvElem imm) s

/-- VGF2P8AFFINEQB, VEX, 128 bits (R157). -/
def execVgf2p8affineqbVex128 (o : VexOps) (imm : Byte) (s : State) :
    Host.Outcome State Fault Refusal :=
  vexOp VOp.vgf2p8affineqb.row false o 8 (affineElem imm) s

/-- VGF2P8AFFINEQB, VEX, 256 bits (R157). -/
def execVgf2p8affineqbVex256 (o : VexOps) (imm : Byte) (s : State) :
    Host.Outcome State Fault Refusal :=
  vexOp VOp.vgf2p8affineqb.row true o 8 (affineElem imm) s

/-- VGF2P8MULB, VEX, 128 bits (R160). -/
def execVgf2p8mulbVex128 (o : VexOps) (s : State) :
    Host.Outcome State Fault Refusal :=
  vexOp VOp.vgf2p8mulb.row false o 8 gfMulElem s

/-- VGF2P8MULB, VEX, 256 bits (R160). -/
def execVgf2p8mulbVex256 (o : VexOps) (s : State) :
    Host.Outcome State Fault Refusal :=
  vexOp VOp.vgf2p8mulb.row true o 8 gfMulElem s

/-! ## EVEX forms -/

/-- VGF2P8AFFINEINVQB, EVEX, 128 bits (R155). -/
def execVgf2p8affineinvqbEvex128 (o : EvexOps Rm) (imm : Byte) (s : State) :
    Host.Outcome State Fault Refusal :=
  evexOp EOp.vgf2p8affineinvqb.row .v128 o 8 (fun _ => affineInvElem imm) s

/-- VGF2P8AFFINEINVQB, EVEX, 256 bits (R155). -/
def execVgf2p8affineinvqbEvex256 (o : EvexOps Rm) (imm : Byte) (s : State) :
    Host.Outcome State Fault Refusal :=
  evexOp EOp.vgf2p8affineinvqb.row .v256 o 8 (fun _ => affineInvElem imm) s

/-- VGF2P8AFFINEINVQB, EVEX, 512 bits (R155). -/
def execVgf2p8affineinvqbEvex512 (o : EvexOps Rm) (imm : Byte) (s : State) :
    Host.Outcome State Fault Refusal :=
  evexOp EOp.vgf2p8affineinvqb.row .v512 o 8 (fun _ => affineInvElem imm) s

/-- VGF2P8AFFINEQB, EVEX, 128 bits (R158). -/
def execVgf2p8affineqbEvex128 (o : EvexOps Rm) (imm : Byte) (s : State) :
    Host.Outcome State Fault Refusal :=
  evexOp EOp.vgf2p8affineqb.row .v128 o 8 (fun _ => affineElem imm) s

/-- VGF2P8AFFINEQB, EVEX, 256 bits (R158). -/
def execVgf2p8affineqbEvex256 (o : EvexOps Rm) (imm : Byte) (s : State) :
    Host.Outcome State Fault Refusal :=
  evexOp EOp.vgf2p8affineqb.row .v256 o 8 (fun _ => affineElem imm) s

/-- VGF2P8AFFINEQB, EVEX, 512 bits (R158). -/
def execVgf2p8affineqbEvex512 (o : EvexOps Rm) (imm : Byte) (s : State) :
    Host.Outcome State Fault Refusal :=
  evexOp EOp.vgf2p8affineqb.row .v512 o 8 (fun _ => affineElem imm) s

/-- VGF2P8MULB, EVEX, 128 bits (R161). -/
def execVgf2p8mulbEvex128 (o : EvexOps Rm) (s : State) :
    Host.Outcome State Fault Refusal :=
  evexOp EOp.vgf2p8mulb.row .v128 o 8 (fun _ => gfMulElem) s

/-- VGF2P8MULB, EVEX, 256 bits (R161). -/
def execVgf2p8mulbEvex256 (o : EvexOps Rm) (s : State) :
    Host.Outcome State Fault Refusal :=
  evexOp EOp.vgf2p8mulb.row .v256 o 8 (fun _ => gfMulElem) s

/-- VGF2P8MULB, EVEX, 512 bits (R161). -/
def execVgf2p8mulbEvex512 (o : EvexOps Rm) (s : State) :
    Host.Outcome State Fault Refusal :=
  evexOp EOp.vgf2p8mulb.row .v512 o 8 (fun _ => gfMulElem) s

end Sys2Proof.Machine
end

