-- ==== Sys2Proof/Machine/Bits.lean ====
section
/-! DEFINITION. Bit counting and gathering (48_vpopcnt_vpshufbitqmb.md): VPOPCNTB/W/D/Q, VPSHUFBITQMB. -/

namespace Sys2Proof.Machine

/-- The number of 1 bits among the `n` low bits of a value (R280). -/
def countOnes {w : Nat} (v : BitVec w) : Nat → Nat
  | 0 => 0
  | n + 1 => countOnes v n + (v.getLsbD n).toNat

/-- A result element of VPOPCNT (R280 to R284). -/
def popcntElem (w : Nat) (x : Vec) (j : Nat) : BitVec w := BitVec.ofNat w (countOnes (elem w x j) w)

/-- Result bit `j` of VPSHUFBITQMB (R286): control byte `j`, its low six bits, selects a bit of
quadword `j / 8` of the data. -/
def shufbitBit (x y : Vec) (j : Nat) : Bool :=
  (elem 64 x (j / 8)).getLsbD ((elem 8 y j).toNat % 64)

/-- A mask whose low `n` bits are given, the others 0. -/
def packMask (f : Nat → Bool) : Nat → Mask
  | 0 => 0
  | n + 1 => packMask f n ||| ((BitVec.ofBool (f n)).setWidth 64 <<< n)

/-- VPSHUFBITQMB (R286): writemask with zeroing only; the mask is zeroed above KL (R123). -/
def shufbit (vl : VL) (o : EvexOps Rm) (s : State) : Host.Outcome State Fault Refusal :=
  finish do
    s.enterEvex EOp.vpshufbitqmb.row vl o
    let ctrl ← s.evexSource EOp.vpshufbitqmb.row vl o
    let data := s.zmmAt o.vvvv
    let m := packMask (fun j => s.active o.aaa j && shufbitBit data ctrl j) (vlElems vl 8)
    .ok ((s.setK (low3 o.reg) m).advance (Form.evex EOp.vpshufbitqmb.row vl o 0).len)

/-- VPOPCNTB, 128 bits (R281). -/
def execVpopcntb128 (o : EvexOps Rm) (s : State) :
    Host.Outcome State Fault Refusal :=
  evexOp EOp.vpopcntb.row .v128 o 8 (fun _ _ => popcntElem 8) s

/-- VPOPCNTB, 256 bits (R281). -/
def execVpopcntb256 (o : EvexOps Rm) (s : State) :
    Host.Outcome State Fault Refusal :=
  evexOp EOp.vpopcntb.row .v256 o 8 (fun _ _ => popcntElem 8) s

/-- VPOPCNTB, 512 bits (R281). -/
def execVpopcntb512 (o : EvexOps Rm) (s : State) :
    Host.Outcome State Fault Refusal :=
  evexOp EOp.vpopcntb.row .v512 o 8 (fun _ _ => popcntElem 8) s

/-- VPOPCNTW, 128 bits (R282). -/
def execVpopcntw128 (o : EvexOps Rm) (s : State) :
    Host.Outcome State Fault Refusal :=
  evexOp EOp.vpopcntw.row .v128 o 16 (fun _ _ => popcntElem 16) s

/-- VPOPCNTW, 256 bits (R282). -/
def execVpopcntw256 (o : EvexOps Rm) (s : State) :
    Host.Outcome State Fault Refusal :=
  evexOp EOp.vpopcntw.row .v256 o 16 (fun _ _ => popcntElem 16) s

/-- VPOPCNTW, 512 bits (R282). -/
def execVpopcntw512 (o : EvexOps Rm) (s : State) :
    Host.Outcome State Fault Refusal :=
  evexOp EOp.vpopcntw.row .v512 o 16 (fun _ _ => popcntElem 16) s

/-- VPOPCNTD, 128 bits (R283). -/
def execVpopcntd128 (o : EvexOps Rm) (s : State) :
    Host.Outcome State Fault Refusal :=
  evexOp EOp.vpopcntd.row .v128 o 32 (fun _ _ => popcntElem 32) s

/-- VPOPCNTD, 256 bits (R283). -/
def execVpopcntd256 (o : EvexOps Rm) (s : State) :
    Host.Outcome State Fault Refusal :=
  evexOp EOp.vpopcntd.row .v256 o 32 (fun _ _ => popcntElem 32) s

/-- VPOPCNTD, 512 bits (R283). -/
def execVpopcntd512 (o : EvexOps Rm) (s : State) :
    Host.Outcome State Fault Refusal :=
  evexOp EOp.vpopcntd.row .v512 o 32 (fun _ _ => popcntElem 32) s

/-- VPOPCNTQ, 128 bits (R284). -/
def execVpopcntq128 (o : EvexOps Rm) (s : State) :
    Host.Outcome State Fault Refusal :=
  evexOp EOp.vpopcntq.row .v128 o 64 (fun _ _ => popcntElem 64) s

/-- VPOPCNTQ, 256 bits (R284). -/
def execVpopcntq256 (o : EvexOps Rm) (s : State) :
    Host.Outcome State Fault Refusal :=
  evexOp EOp.vpopcntq.row .v256 o 64 (fun _ _ => popcntElem 64) s

/-- VPOPCNTQ, 512 bits (R284). -/
def execVpopcntq512 (o : EvexOps Rm) (s : State) :
    Host.Outcome State Fault Refusal :=
  evexOp EOp.vpopcntq.row .v512 o 64 (fun _ _ => popcntElem 64) s

/-- VPSHUFBITQMB, 128 bits (R286). -/
def execVpshufbitqmb128 (o : EvexOps Rm) (s : State) : Host.Outcome State Fault Refusal :=
  shufbit .v128 o s

/-- VPSHUFBITQMB, 256 bits (R286). -/
def execVpshufbitqmb256 (o : EvexOps Rm) (s : State) : Host.Outcome State Fault Refusal :=
  shufbit .v256 o s

/-- VPSHUFBITQMB, 512 bits (R286). -/
def execVpshufbitqmb512 (o : EvexOps Rm) (s : State) : Host.Outcome State Fault Refusal :=
  shufbit .v512 o s

end Sys2Proof.Machine
end

