-- ==== Sys2Proof/Machine/Cache.lean ====
section
/-! DEFINITION. CLDEMOTE and WBNOINVD (40_cache_control.md). Both act on caches, which are not
architectural state, and leave registers, flags and memory as they are (R141, R146). -/

namespace Sys2Proof.Machine

/-- Whether CLDEMOTE may abort: it is not a NOP, in a transaction, on an implementation that may abort it
(R140, R342). -/
def State.demoteMayAbort (s : State) : Bool :=
  s.hasAll [.cldemote] && s.inTx && s.cfg.cldemoteAbortsTsx

/-- CLDEMOTE m8 (R140): #UD with LOCK (D20); a NOP without its feature flag; in a transaction, where the
implementation may abort it, an abort or not by a free value (R342; log 33). No check of the address is
made. -/
def execCldemote (p : Pfx) (m : Mem) (s : State) : Host.Outcome State Fault Refusal :=
  finish do
    stopIf (p.has .lock) s.ud
    if s.demoteMayAbort then
      stopIf (Config.cldemoteAborts s.draws) (.fault .txAbort)
      .ok (State.advance { s with draws := s.draws + 1 } (Instr.cldemote p m).len)
    else .ok (s.advance (Instr.cldemote p m).len)

/-- WBNOINVD (R145): #UD with LOCK; refused without its feature flag (D19), in VMX non-root operation and
in a transaction (D10); #GP(0) in virtual-8086 mode and, outside real-address mode, at CPL above 0. It
serializes (R78), so bytes stored before it may be executed after it (R86). -/
def execWbnoinvd (p : Pfx) (s : State) : Host.Outcome State Fault Refusal :=
  finish do
    stopIf (p.has .lock) s.ud
    stopIf (!s.hasAll [.wbnoinvd]) (.refuse .wbnoinvdAbsent)
    stopIf (s.mode = .v86 || s.cpl ≠ 0) s.gp
    stopIf s.inGuest (.refuse .vmxSilent)
    stopIf s.inTx (.refuse .txSilent)
    .ok ({ s with written := [] }.advance (Instr.wbnoinvd p).len)

end Sys2Proof.Machine
end

