-- ==== Sys2Proof/Machine/Clmul.lean ====
section
/-! DEFINITION. VPCLMULQDQ (45_vaes_vpclmulqdq.md): carry-less multiplication per 128-bit lane. -/

namespace Sys2Proof.Machine

/-- `PCLMUL128` (R236) as the sum over the `n` low bits of `y` of `x` shifted: bit `i` is the XOR of
`x[j] AND y[k]` over `j + k = i`. -/
def clmulUpTo (x y : Word) : Nat → BitVec 128
  | 0 => 0
  | n + 1 => clmulUpTo x y n ^^^ (if y.getLsbD n then x.setWidth 128 <<< n else 0)

/-- `PCLMUL128` (R236). -/
def clmul (x y : Word) : BitVec 128 := clmulUpTo x y 64

/-- A result lane (R235): `imm8[0]` selects the quadword of the first source, `imm8[4]` that of the
second; the other bits of the immediate are ignored. -/
def clmulElem (imm : Byte) (x y : Vec) (j : Nat) : BitVec 128 :=
  clmul (elem 64 x (2 * j + (imm.getLsbD 0).toNat)) (elem 64 y (2 * j + (imm.getLsbD 4).toNat))

/-- VPCLMULQDQ, VEX, 256 bits (R235). -/
def execVpclmulqdqVex256 (o : VexOps) (imm : Byte) (s : State) :
    Host.Outcome State Fault Refusal :=
  vexOp VOp.vpclmulqdq.row true o 128 (clmulElem imm) s

/-- VPCLMULQDQ, EVEX, 128 bits (R235). -/
def execVpclmulqdqEvex128 (o : EvexOps Rm) (imm : Byte) (s : State) :
    Host.Outcome State Fault Refusal :=
  evexOp EOp.vpclmulqdq.row .v128 o 128 (fun _ => clmulElem imm) s

/-- VPCLMULQDQ, EVEX, 256 bits (R235). -/
def execVpclmulqdqEvex256 (o : EvexOps Rm) (imm : Byte) (s : State) :
    Host.Outcome State Fault Refusal :=
  evexOp EOp.vpclmulqdq.row .v256 o 128 (fun _ => clmulElem imm) s

/-- VPCLMULQDQ, EVEX, 512 bits (R235). -/
def execVpclmulqdqEvex512 (o : EvexOps Rm) (imm : Byte) (s : State) :
    Host.Outcome State Fault Refusal :=
  evexOp EOp.vpclmulqdq.row .v512 o 128 (fun _ => clmulElem imm) s

end Sys2Proof.Machine
end

