-- ==== Sys2Proof/Machine/Compress.lean ====
section
/-! DEFINITION. VPCOMPRESSB/W and VPEXPANDB/W (46_vpcompress_vpexpand.md), memory and register forms. -/

namespace Sys2Proof.Machine

/-- The active elements of a source, packed together in order (R252). -/
def State.compressed (s : State) (w n : Nat) (aaa : BitVec 3) (src : Vec) : List (BitVec w) :=
  (s.actives aaa n).map (elem w src)

/-- How many active elements come before element `j` (R256). -/
def State.rank (s : State) (aaa : BitVec 3) (j : Nat) : Nat := (s.actives aaa j).length

/-- Result element `j` of VPCOMPRESS to a register (R252): the `j`-th active element, or above the last
one 0 or the old element. -/
def State.compressElem (s : State) (w n : Nat) (aaa : BitVec 3) (z : Bool) (old src : Vec) (j : Nat) :
    BitVec w :=
  match (s.compressed w n aaa src)[j]? with
  | some e => e
  | none => if z then 0 else elem w old j

/-- How many bytes of memory a memory form touches: those of its active elements (R89, R254, R258). -/
def State.touched (s : State) (r : EvexRow) (vl : VL) (aaa : BitVec 3) : Nat :=
  (s.actives aaa (vlElems vl (8 * r.elem))).length * r.elem

/-- The pieces of a memory form that are checked: nothing when no element is active (R254, R258). -/
def State.touchedPieces (s : State) (r : EvexRow) (vl : VL) (aaa : BitVec 3) : List (Nat × Nat) :=
  if s.touched r vl aaa = 0 then [] else [(0, s.touched r vl aaa)]

/-- The linear address of the memory operand of a memory form. -/
def State.denseAddr (s : State) (r : EvexRow) (vl : VL) (o : EvexOps Mem) : Word :=
  s.linear (s.segOf o.pfx o.rm) (s.evexAddr r vl o.anyMem o.rm)

/-- The checks of the operand of a memory form (R254, R258). -/
def State.denseCheck (s : State) (r : EvexRow) (vl : VL) (o : EvexOps Mem) (acc : Access) :
    Except Stop Unit :=
  s.checkPieces (s.segOf o.pfx o.rm) (s.evexAddr r vl o.anyMem o.rm) acc
    (s.touchedPieces r vl o.aaa)

/-- The bytes that VPCOMPRESS stores (R252 to R254). -/
def State.denseBytes (s : State) (r : EvexRow) (vl : VL) (o : EvexOps Mem) : List Byte :=
  (s.compressed (8 * r.elem) (vlElems vl (8 * r.elem)) o.aaa (s.zmmAt o.reg)).flatMap
    (toBytes r.elem)

/-- VPCOMPRESS to memory (R252 to R254): only the contiguous vector is written. -/
def compressStore (r : EvexRow) (vl : VL) (o : EvexOps Mem) (s : State) :
    Host.Outcome State Fault Refusal :=
  finish do
    s.enterEvex r vl o.anyMem
    s.denseCheck r vl o .write
    let bs := s.denseBytes r vl o
    let t := if bs.isEmpty then s else s.store (s.denseAddr r vl o) bs
    .ok (t.advance (Form.evex r vl o.anyMem 0).len)

/-- VPCOMPRESS to a register: `ModRM:r/m` is the destination, `ModRM:reg` the source (R251, R252). -/
def compressReg (r : EvexRow) (vl : VL) (o : EvexOps (BitVec 5)) (s : State) :
    Host.Outcome State Fault Refusal :=
  finish do
    s.enterEvex r vl o.anyReg
    let w := 8 * r.elem
    let n := vlElems vl w
    let v := pack w n (s.compressElem w n o.aaa o.z (s.zmmAt o.rm) (s.zmmAt o.reg))
    .ok ((s.setZmm o.rm v).advance (Form.evex r vl o.anyReg 0).len)

/-- The result of VPEXPAND (R256): active element `j` is the next element of the source. -/
def State.expanded (s : State) (w n : Nat) (aaa : BitVec 3) (z : Bool) (old src : Vec) : Vec :=
  s.masked w n aaa z old fun j => elem w src (s.rank aaa j)

/-- VPEXPAND from memory (R256 to R258): only the bytes of the active elements are read. -/
def expandLoad (r : EvexRow) (vl : VL) (o : EvexOps Mem) (s : State) :
    Host.Outcome State Fault Refusal :=
  finish do
    s.enterEvex r vl o.anyMem
    s.denseCheck r vl o .read
    let w := 8 * r.elem
    let src := s.load (s.denseAddr r vl o) (s.touched r vl o.aaa) 512
    let v := s.expanded w (vlElems vl w) o.aaa o.z (s.zmmAt o.reg) src
    .ok ((s.setZmm o.reg v).advance (Form.evex r vl o.anyMem 0).len)

/-- VPEXPAND from a register (R256). -/
def expandReg (r : EvexRow) (vl : VL) (o : EvexOps (BitVec 5)) (s : State) :
    Host.Outcome State Fault Refusal :=
  finish do
    s.enterEvex r vl o.anyReg
    let w := 8 * r.elem
    let v := s.expanded w (vlElems vl w) o.aaa o.z (s.zmmAt o.reg) (s.zmmAt o.rm)
    .ok ((s.setZmm o.reg v).advance (Form.evex r vl o.anyReg 0).len)

/-- VPCOMPRESSB, memory form, 128 bits (R252). -/
def execVpcompressb128m (o : EvexOps Mem) (s : State) : Host.Outcome State Fault Refusal :=
  compressStore POp.vpcompressb.memRow .v128 o s

/-- VPCOMPRESSB, register form, 128 bits (R252). -/
def execVpcompressb128r (o : EvexOps (BitVec 5)) (s : State) :
    Host.Outcome State Fault Refusal :=
  compressReg POp.vpcompressb.regRow .v128 o s

/-- VPCOMPRESSB, memory form, 256 bits (R252). -/
def execVpcompressb256m (o : EvexOps Mem) (s : State) : Host.Outcome State Fault Refusal :=
  compressStore POp.vpcompressb.memRow .v256 o s

/-- VPCOMPRESSB, register form, 256 bits (R252). -/
def execVpcompressb256r (o : EvexOps (BitVec 5)) (s : State) :
    Host.Outcome State Fault Refusal :=
  compressReg POp.vpcompressb.regRow .v256 o s

/-- VPCOMPRESSB, memory form, 512 bits (R252). -/
def execVpcompressb512m (o : EvexOps Mem) (s : State) : Host.Outcome State Fault Refusal :=
  compressStore POp.vpcompressb.memRow .v512 o s

/-- VPCOMPRESSB, register form, 512 bits (R252). -/
def execVpcompressb512r (o : EvexOps (BitVec 5)) (s : State) :
    Host.Outcome State Fault Refusal :=
  compressReg POp.vpcompressb.regRow .v512 o s

/-- VPCOMPRESSW, memory form, 128 bits (R253). -/
def execVpcompressw128m (o : EvexOps Mem) (s : State) : Host.Outcome State Fault Refusal :=
  compressStore POp.vpcompressw.memRow .v128 o s

/-- VPCOMPRESSW, register form, 128 bits (R253). -/
def execVpcompressw128r (o : EvexOps (BitVec 5)) (s : State) :
    Host.Outcome State Fault Refusal :=
  compressReg POp.vpcompressw.regRow .v128 o s

/-- VPCOMPRESSW, memory form, 256 bits (R253). -/
def execVpcompressw256m (o : EvexOps Mem) (s : State) : Host.Outcome State Fault Refusal :=
  compressStore POp.vpcompressw.memRow .v256 o s

/-- VPCOMPRESSW, register form, 256 bits (R253). -/
def execVpcompressw256r (o : EvexOps (BitVec 5)) (s : State) :
    Host.Outcome State Fault Refusal :=
  compressReg POp.vpcompressw.regRow .v256 o s

/-- VPCOMPRESSW, memory form, 512 bits (R253). -/
def execVpcompressw512m (o : EvexOps Mem) (s : State) : Host.Outcome State Fault Refusal :=
  compressStore POp.vpcompressw.memRow .v512 o s

/-- VPCOMPRESSW, register form, 512 bits (R253). -/
def execVpcompressw512r (o : EvexOps (BitVec 5)) (s : State) :
    Host.Outcome State Fault Refusal :=
  compressReg POp.vpcompressw.regRow .v512 o s

/-- VPEXPANDB, memory form, 128 bits (R256). -/
def execVpexpandb128m (o : EvexOps Mem) (s : State) : Host.Outcome State Fault Refusal :=
  expandLoad POp.vpexpandb.memRow .v128 o s

/-- VPEXPANDB, register form, 128 bits (R256). -/
def execVpexpandb128r (o : EvexOps (BitVec 5)) (s : State) :
    Host.Outcome State Fault Refusal :=
  expandReg POp.vpexpandb.regRow .v128 o s

/-- VPEXPANDB, memory form, 256 bits (R256). -/
def execVpexpandb256m (o : EvexOps Mem) (s : State) : Host.Outcome State Fault Refusal :=
  expandLoad POp.vpexpandb.memRow .v256 o s

/-- VPEXPANDB, register form, 256 bits (R256). -/
def execVpexpandb256r (o : EvexOps (BitVec 5)) (s : State) :
    Host.Outcome State Fault Refusal :=
  expandReg POp.vpexpandb.regRow .v256 o s

/-- VPEXPANDB, memory form, 512 bits (R256). -/
def execVpexpandb512m (o : EvexOps Mem) (s : State) : Host.Outcome State Fault Refusal :=
  expandLoad POp.vpexpandb.memRow .v512 o s

/-- VPEXPANDB, register form, 512 bits (R256). -/
def execVpexpandb512r (o : EvexOps (BitVec 5)) (s : State) :
    Host.Outcome State Fault Refusal :=
  expandReg POp.vpexpandb.regRow .v512 o s

/-- VPEXPANDW, memory form, 128 bits (R257). -/
def execVpexpandw128m (o : EvexOps Mem) (s : State) : Host.Outcome State Fault Refusal :=
  expandLoad POp.vpexpandw.memRow .v128 o s

/-- VPEXPANDW, register form, 128 bits (R257). -/
def execVpexpandw128r (o : EvexOps (BitVec 5)) (s : State) :
    Host.Outcome State Fault Refusal :=
  expandReg POp.vpexpandw.regRow .v128 o s

/-- VPEXPANDW, memory form, 256 bits (R257). -/
def execVpexpandw256m (o : EvexOps Mem) (s : State) : Host.Outcome State Fault Refusal :=
  expandLoad POp.vpexpandw.memRow .v256 o s

/-- VPEXPANDW, register form, 256 bits (R257). -/
def execVpexpandw256r (o : EvexOps (BitVec 5)) (s : State) :
    Host.Outcome State Fault Refusal :=
  expandReg POp.vpexpandw.regRow .v256 o s

/-- VPEXPANDW, memory form, 512 bits (R257). -/
def execVpexpandw512m (o : EvexOps Mem) (s : State) : Host.Outcome State Fault Refusal :=
  expandLoad POp.vpexpandw.memRow .v512 o s

/-- VPEXPANDW, register form, 512 bits (R257). -/
def execVpexpandw512r (o : EvexOps (BitVec 5)) (s : State) :
    Host.Outcome State Fault Refusal :=
  expandReg POp.vpexpandw.regRow .v512 o s

end Sys2Proof.Machine
end

