-- ==== Sys2Proof/Machine/DirectStore.lean ====
section
/-! DEFINITION. MOVDIRI and MOVDIR64B (42_direct_store.md). In a flat coherent memory a direct store is a
store (R172). -/

namespace Sys2Proof.Machine

/-- The checks that MOVDIRI and MOVDIR64B make before their operands: #UD, then the refusal in a
transaction, of which the source says nothing (R170, R173, R312, R342). -/
def State.enterDirect (s : State) (p : Pfx) (f : Feature) (no66 : Bool) : Except Stop Unit := do
  stopIf (p.has .lock) s.ud
  stopIf (no66 && p.has .osize) s.ud
  stopIf (!s.hasAll [f]) s.ud
  stopIf s.inTx (.refuse .txSilent)

/-- MOVDIRI of `n` bytes (R170, R171): segment, then #AC, then translation (R312; log 19), then the
store of the low bytes of the register. -/
def movdiri (n : Nat) (p : Pfx) (m : Mem) (reg : BitVec 4) (len : Nat) (s : State) :
    Host.Outcome State Fault Refusal :=
  finish do
    s.enterDirect p .movdiri true
    let la ← s.checkSegment (s.segOf p m) (s.operandAddr p len 1 m) n .write
    stopIf (s.alignChecked && la.toNat % n ≠ 0) s.ac
    s.checkPages .write (s.span la n)
    .ok ((s.store la (toBytes n (s.gprAt reg))).advance len)

/-- MOVDIRI m32, r32 (R170). -/
def execMovdiri32 (p : Pfx) (m : Mem) (reg : BitVec 4) (s : State) :
    Host.Outcome State Fault Refusal :=
  movdiri 4 p m reg (Instr.movdiri32 p m reg).len s

/-- MOVDIRI m64, r64 (R171). -/
def execMovdiri64 (p : Pfx) (m : Mem) (reg : BitVec 4) (s : State) :
    Host.Outcome State Fault Refusal :=
  movdiri 8 p m reg (Instr.movdiri64 p m reg).len s

/-- MOVDIR64B (R173): source segment, destination segment (always ES), destination alignment on the
effective address (R68, D16), source translation, destination translation; the 64 bytes are read,
without atomicity (R71), before any is written. -/
def execMovdir64b (p : Pfx) (reg : BitVec 4) (m : Mem) (s : State) :
    Host.Outcome State Fault Refusal :=
  finish do
    let len := (Instr.movdir64b p reg m).len
    s.enterDirect p .movdir64b false
    let dea := truncA (s.asize p) (s.gprAt reg)
    let sla ← s.checkSegment (s.segOf p m) (s.operandAddr p len 1 m) 64 .read
    let dla ← s.checkSegment .es dea 64 .write
    stopIf (dea.toNat % 64 ≠ 0) s.gp
    s.checkPages .read (s.span sla 64)
    s.checkPages .write (s.span dla 64)
    .ok ((s.store dla ((s.span sla 64).map s.readAt)).advance len)

end Sys2Proof.Machine
end

