-- ==== Sys2Proof/Machine/Pconfig.lean ====
section
/-! DEFINITION. PCONFIG and its one leaf, MKTME_KEY_PROGRAM (43_pconfig.md). -/

namespace Sys2Proof.Machine

/-- Return values of the leaf (R185). -/
def progSuccess : Nat := 0
/-- Not a valid command (R185). -/
def invalidProgCmd : Nat := 1
/-- Not enough entropy (R185). -/
def entropyError : Nat := 2
/-- KeyID not valid (R185). -/
def invalidKeyid : Nat := 3
/-- Algorithm not supported (R185). -/
def invalidEncAlg : Nat := 4
/-- The key table could not be acquired (R185). -/
def deviceBusy : Nat := 5

/-- MKTME_KEY_PROGRAM_STRUCT as 192 bytes read at an address (R183). -/
def State.keyStruct (s : State) (la : Word) : List Byte := (s.span la 192).map s.readAt

/-- The `n` bytes at an offset of a structure, as a value of `w` bits (R63, R183). -/
def field (t : List Byte) (off n w : Nat) : BitVec w :=
  BitVec.ofNat w (fromBytes ((t.drop off).take n))

/-- The reserved bytes of the structure: 5; 6 to 63; 16 to 63 of each key field (R183, R188, C13). -/
def reservedBytes (t : List Byte) : List Byte :=
  (t.drop 5).take 59 ++ (t.drop 80).take 48 ++ (t.drop 144).take 48

/-- How many bits of a value are 1: NUM_BITS (R187). -/
def numBits {w : Nat} (v : BitVec w) : Nat := ((List.range w).filter v.getLsbD).length

/-- The status checks of the leaf before the lock, in order (R187, R189). -/
def State.keyError (s : State) (t : List Byte) : Option Nat :=
  let keyid := (field t 0 2 16).toNat
  let alg := field t 3 2 16
  if 3 < (field t 2 1 8).toNat then some invalidProgCmd
  else if 2 ^ s.msr.tmeKeyidBits.toNat - 1 < keyid ∨ s.msr.tmeMaxKeys.toNat < keyid ∨ keyid = 0 then
    some invalidKeyid
  else if numBits alg ≠ 1 ∨ alg &&& s.msr.tmeCryptoAlgs = 0 then some invalidEncAlg
  else if s.keyLock ≠ .unlocked then some deviceBusy
  else none

/-- The commands of the leaf with the lock acquired (R184, R187, R190, R191): the return value and the
state, the lock released but on an ENTROPY_ERROR exit by parameter (C14). -/
def State.program (s : State) (t : List Byte) : Nat × State :=
  let id := (field t 0 2 16).toNat
  let key1 := field t 64 16 128
  let key2 := field t 128 16 128
  let failed : State :=
    if s.cfg.pconfigEntropyReleasesLock then s else { s with keyLock := .exclusive .self }
  if field t 2 1 8 = (0 : Byte) then
    (progSuccess, s.setKey id { dataKey := key1, tweakKey := key2, mode := .keyidKey })
  else if field t 2 1 8 = (1 : Byte) then
    match Config.entropy s.draws with
    | none => (entropyError, { failed with draws := s.draws + 1 })
    | some d1 =>
      match Config.entropy (s.draws + 1) with
      | none => (entropyError, { failed with draws := s.draws + 2 })
      | some d2 =>
        (progSuccess,
          { s.setKey id { dataKey := d1 ^^^ key1, tweakKey := d2 ^^^ key2, mode := .keyidKey } with
            draws := s.draws + 2 })
  else if field t 2 1 8 = (2 : Byte) then
    (progSuccess, s.setKey id { dataKey := 0, tweakKey := 0, mode := .tmeKey })
  else
    (progSuccess, s.setKey id { s.keyAt id with mode := .noEncryption })

/-- The leaf after its fault checks (R187): the return value and the state. -/
def State.keyProgram (s : State) (t : List Byte) : Nat × State :=
  match s.keyError t with
  | some code => (code, s)
  | none => s.program t

/-- RAX as the leaf writes it (R182, R186): whole in 64-bit mode; outside it EAX, and the upper half
is the free value of R22 (log 12). -/
def State.pconfigRax (s : State) (code : Nat) : Word :=
  if s.mode = .bits64 then BitVec.ofNat 64 code
  else Config.upperHalf s.draws ++ BitVec.ofNat 32 code

/-- Writes the leaf's return value to RAX and the status flags (R186). -/
def State.pconfigResult (s : State) (code : Nat) : State :=
  { s.setGpr 0 (s.pconfigRax code) with
    rflags := writeStatus s.rflags (pconfigFlags code)
    draws := s.draws + 1 }

/-- Whether PCONFIG of a leaf leaves VMX non-root operation (R180, R192). -/
def State.pconfigExits (s : State) (leaf : BitVec 32) : Bool :=
  s.vmx.pconfigExiting.getLsbD (if 62 < leaf.toNat then 63 else leaf.toNat)

/-- The effective address of the structure: RBX in 64-bit mode, EBX in the others (R182, D15). -/
def State.keyAddr (s : State) : Word :=
  if s.mode = .bits64 then s.gprAt 3 else truncA .a32 (s.gprAt 3)

/-- What PCONFIG checks up to the leaf number (R180, R312, R342). -/
def State.enterPconfig (s : State) (p : Pfx) : Except Stop Unit := do
  stopIf (p.has .lock || p.has .rep || p.has .repne || p.has .osize) s.ud
  stopIf (s.mode = .v86) s.ud
  stopIf (!s.hasAll [.pconfig] || s.cpl ≠ 0) s.ud
  stopIf (s.inGuest && !s.vmx.pconfigEnable) s.ud
  stopIf (s.inGuest && s.pconfigExits s.eax) (.fault (.vmExit .pconfig))
  stopIf (s.eax ≠ 0) s.gp
  stopIf (!s.msr.tmeLock || !s.msr.tmeEnable || s.msr.tmeKeyidBits = 0) s.gp
  stopIf s.inTx (.refuse .txSilent)

/-- The structure's linear address with its alignment and access checks (R187, R188). -/
def State.checkKeyStruct (s : State) : Except Stop Word := do
  let la ← s.checkSegment .ds s.keyAddr 192 .read
  stopIf (la.toNat % 256 ≠ 0) s.gp
  s.checkPages .read (s.span la 192)
  .ok la

/-- PCONFIG (R180, R187). -/
def execPconfig (p : Pfx) (s : State) : Host.Outcome State Fault Refusal :=
  finish do
    s.enterPconfig p
    let la ← s.checkKeyStruct
    let t := s.keyStruct la
    stopIf ((reservedBytes t).any (· ≠ 0)) s.gp
    let r := s.keyProgram t
    .ok ((r.2.pconfigResult r.1).advance (Instr.pconfig p).len)

end Sys2Proof.Machine
end

