-- ==== Sys2Proof/Machine/Shift.lean ====
section
/-! DEFINITION. AVX512_VBMI2 concatenate-and-shift (49_vpshld_vpshrd.md): VPSHLD, VPSHLDV, VPSHRD,
VPSHRDV in word, doubleword and quadword forms. -/

namespace Sys2Proof.Machine

/-- The upper half of `concat(a, b) << c` for elements of `w` bits (R294). -/
def shld (w : Nat) (a b : BitVec w) (c : Nat) : BitVec w :=
  ((a ++ b) <<< c).extractLsb' w w

/-- The lower half of `concat(a, b) >> c` for elements of `w` bits (R294). -/
def shrd (w : Nat) (a b : BitVec w) (c : Nat) : BitVec w :=
  ((a ++ b) >>> c).extractLsb' 0 w

/-- A shift count: masked with the element width minus 1, a power of two (R294). -/
def count (w n : Nat) : Nat := n % w

/-- A result element of VPSHLD: the first source above the second (R291, R306). -/
def shldElem (w : Nat) (imm : Byte) (x y : Vec) (j : Nat) : BitVec w :=
  shld w (elem w x j) (elem w y j) (count w imm.toNat)

/-- A result element of VPSHLDV: the old destination above the first source, counts in the second
(R296, R306). -/
def shldvElem (w : Nat) (d x y : Vec) (j : Nat) : BitVec w :=
  shld w (elem w d j) (elem w x j) (count w (elem w y j).toNat)

/-- A result element of VPSHRD: the second source above the first (R299, R306). -/
def shrdElem (w : Nat) (imm : Byte) (x y : Vec) (j : Nat) : BitVec w :=
  shrd w (elem w y j) (elem w x j) (count w imm.toNat)

/-- A result element of VPSHRDV: the first source above the old destination, counts in the second
(R302, R306). -/
def shrdvElem (w : Nat) (d x y : Vec) (j : Nat) : BitVec w :=
  shrd w (elem w x j) (elem w d j) (count w (elem w y j).toNat)

/-- VPSHLDW, 128 bits (R291). -/
def execVpshldw128 (o : EvexOps Rm) (imm : Byte) (s : State) :
    Host.Outcome State Fault Refusal :=
  evexOp EOp.vpshldw.row .v128 o 16 (fun _ => shldElem 16 imm) s

/-- VPSHLDW, 256 bits (R291). -/
def execVpshldw256 (o : EvexOps Rm) (imm : Byte) (s : State) :
    Host.Outcome State Fault Refusal :=
  evexOp EOp.vpshldw.row .v256 o 16 (fun _ => shldElem 16 imm) s

/-- VPSHLDW, 512 bits (R291). -/
def execVpshldw512 (o : EvexOps Rm) (imm : Byte) (s : State) :
    Host.Outcome State Fault Refusal :=
  evexOp EOp.vpshldw.row .v512 o 16 (fun _ => shldElem 16 imm) s

/-- VPSHLDD, 128 bits (R292). -/
def execVpshldd128 (o : EvexOps Rm) (imm : Byte) (s : State) :
    Host.Outcome State Fault Refusal :=
  evexOp EOp.vpshldd.row .v128 o 32 (fun _ => shldElem 32 imm) s

/-- VPSHLDD, 256 bits (R292). -/
def execVpshldd256 (o : EvexOps Rm) (imm : Byte) (s : State) :
    Host.Outcome State Fault Refusal :=
  evexOp EOp.vpshldd.row .v256 o 32 (fun _ => shldElem 32 imm) s

/-- VPSHLDD, 512 bits (R292). -/
def execVpshldd512 (o : EvexOps Rm) (imm : Byte) (s : State) :
    Host.Outcome State Fault Refusal :=
  evexOp EOp.vpshldd.row .v512 o 32 (fun _ => shldElem 32 imm) s

/-- VPSHLDQ, 128 bits (R293). -/
def execVpshldq128 (o : EvexOps Rm) (imm : Byte) (s : State) :
    Host.Outcome State Fault Refusal :=
  evexOp EOp.vpshldq.row .v128 o 64 (fun _ => shldElem 64 imm) s

/-- VPSHLDQ, 256 bits (R293). -/
def execVpshldq256 (o : EvexOps Rm) (imm : Byte) (s : State) :
    Host.Outcome State Fault Refusal :=
  evexOp EOp.vpshldq.row .v256 o 64 (fun _ => shldElem 64 imm) s

/-- VPSHLDQ, 512 bits (R293). -/
def execVpshldq512 (o : EvexOps Rm) (imm : Byte) (s : State) :
    Host.Outcome State Fault Refusal :=
  evexOp EOp.vpshldq.row .v512 o 64 (fun _ => shldElem 64 imm) s

/-- VPSHLDVW, 128 bits (R296). -/
def execVpshldvw128 (o : EvexOps Rm) (s : State) :
    Host.Outcome State Fault Refusal :=
  evexOp EOp.vpshldvw.row .v128 o 16 (shldvElem 16) s

/-- VPSHLDVW, 256 bits (R296). -/
def execVpshldvw256 (o : EvexOps Rm) (s : State) :
    Host.Outcome State Fault Refusal :=
  evexOp EOp.vpshldvw.row .v256 o 16 (shldvElem 16) s

/-- VPSHLDVW, 512 bits (R296). -/
def execVpshldvw512 (o : EvexOps Rm) (s : State) :
    Host.Outcome State Fault Refusal :=
  evexOp EOp.vpshldvw.row .v512 o 16 (shldvElem 16) s

/-- VPSHLDVD, 128 bits (R297). -/
def execVpshldvd128 (o : EvexOps Rm) (s : State) :
    Host.Outcome State Fault Refusal :=
  evexOp EOp.vpshldvd.row .v128 o 32 (shldvElem 32) s

/-- VPSHLDVD, 256 bits (R297). -/
def execVpshldvd256 (o : EvexOps Rm) (s : State) :
    Host.Outcome State Fault Refusal :=
  evexOp EOp.vpshldvd.row .v256 o 32 (shldvElem 32) s

/-- VPSHLDVD, 512 bits (R297). -/
def execVpshldvd512 (o : EvexOps Rm) (s : State) :
    Host.Outcome State Fault Refusal :=
  evexOp EOp.vpshldvd.row .v512 o 32 (shldvElem 32) s

/-- VPSHLDVQ, 128 bits (R298). -/
def execVpshldvq128 (o : EvexOps Rm) (s : State) :
    Host.Outcome State Fault Refusal :=
  evexOp EOp.vpshldvq.row .v128 o 64 (shldvElem 64) s

/-- VPSHLDVQ, 256 bits (R298). -/
def execVpshldvq256 (o : EvexOps Rm) (s : State) :
    Host.Outcome State Fault Refusal :=
  evexOp EOp.vpshldvq.row .v256 o 64 (shldvElem 64) s

/-- VPSHLDVQ, 512 bits (R298). -/
def execVpshldvq512 (o : EvexOps Rm) (s : State) :
    Host.Outcome State Fault Refusal :=
  evexOp EOp.vpshldvq.row .v512 o 64 (shldvElem 64) s

/-- VPSHRDW, 128 bits (R299). -/
def execVpshrdw128 (o : EvexOps Rm) (imm : Byte) (s : State) :
    Host.Outcome State Fault Refusal :=
  evexOp EOp.vpshrdw.row .v128 o 16 (fun _ => shrdElem 16 imm) s

/-- VPSHRDW, 256 bits (R299). -/
def execVpshrdw256 (o : EvexOps Rm) (imm : Byte) (s : State) :
    Host.Outcome State Fault Refusal :=
  evexOp EOp.vpshrdw.row .v256 o 16 (fun _ => shrdElem 16 imm) s

/-- VPSHRDW, 512 bits (R299). -/
def execVpshrdw512 (o : EvexOps Rm) (imm : Byte) (s : State) :
    Host.Outcome State Fault Refusal :=
  evexOp EOp.vpshrdw.row .v512 o 16 (fun _ => shrdElem 16 imm) s

/-- VPSHRDD, 128 bits (R300). -/
def execVpshrdd128 (o : EvexOps Rm) (imm : Byte) (s : State) :
    Host.Outcome State Fault Refusal :=
  evexOp EOp.vpshrdd.row .v128 o 32 (fun _ => shrdElem 32 imm) s

/-- VPSHRDD, 256 bits (R300). -/
def execVpshrdd256 (o : EvexOps Rm) (imm : Byte) (s : State) :
    Host.Outcome State Fault Refusal :=
  evexOp EOp.vpshrdd.row .v256 o 32 (fun _ => shrdElem 32 imm) s

/-- VPSHRDD, 512 bits (R300). -/
def execVpshrdd512 (o : EvexOps Rm) (imm : Byte) (s : State) :
    Host.Outcome State Fault Refusal :=
  evexOp EOp.vpshrdd.row .v512 o 32 (fun _ => shrdElem 32 imm) s

/-- VPSHRDQ, 128 bits (R301). -/
def execVpshrdq128 (o : EvexOps Rm) (imm : Byte) (s : State) :
    Host.Outcome State Fault Refusal :=
  evexOp EOp.vpshrdq.row .v128 o 64 (fun _ => shrdElem 64 imm) s

/-- VPSHRDQ, 256 bits (R301). -/
def execVpshrdq256 (o : EvexOps Rm) (imm : Byte) (s : State) :
    Host.Outcome State Fault Refusal :=
  evexOp EOp.vpshrdq.row .v256 o 64 (fun _ => shrdElem 64 imm) s

/-- VPSHRDQ, 512 bits (R301). -/
def execVpshrdq512 (o : EvexOps Rm) (imm : Byte) (s : State) :
    Host.Outcome State Fault Refusal :=
  evexOp EOp.vpshrdq.row .v512 o 64 (fun _ => shrdElem 64 imm) s

/-- VPSHRDVW, 128 bits (R302). -/
def execVpshrdvw128 (o : EvexOps Rm) (s : State) :
    Host.Outcome State Fault Refusal :=
  evexOp EOp.vpshrdvw.row .v128 o 16 (shrdvElem 16) s

/-- VPSHRDVW, 256 bits (R302). -/
def execVpshrdvw256 (o : EvexOps Rm) (s : State) :
    Host.Outcome State Fault Refusal :=
  evexOp EOp.vpshrdvw.row .v256 o 16 (shrdvElem 16) s

/-- VPSHRDVW, 512 bits (R302). -/
def execVpshrdvw512 (o : EvexOps Rm) (s : State) :
    Host.Outcome State Fault Refusal :=
  evexOp EOp.vpshrdvw.row .v512 o 16 (shrdvElem 16) s

/-- VPSHRDVD, 128 bits (R303). -/
def execVpshrdvd128 (o : EvexOps Rm) (s : State) :
    Host.Outcome State Fault Refusal :=
  evexOp EOp.vpshrdvd.row .v128 o 32 (shrdvElem 32) s

/-- VPSHRDVD, 256 bits (R303). -/
def execVpshrdvd256 (o : EvexOps Rm) (s : State) :
    Host.Outcome State Fault Refusal :=
  evexOp EOp.vpshrdvd.row .v256 o 32 (shrdvElem 32) s

/-- VPSHRDVD, 512 bits (R303). -/
def execVpshrdvd512 (o : EvexOps Rm) (s : State) :
    Host.Outcome State Fault Refusal :=
  evexOp EOp.vpshrdvd.row .v512 o 32 (shrdvElem 32) s

/-- VPSHRDVQ, 128 bits (R304). -/
def execVpshrdvq128 (o : EvexOps Rm) (s : State) :
    Host.Outcome State Fault Refusal :=
  evexOp EOp.vpshrdvq.row .v128 o 64 (shrdvElem 64) s

/-- VPSHRDVQ, 256 bits (R304). -/
def execVpshrdvq256 (o : EvexOps Rm) (s : State) :
    Host.Outcome State Fault Refusal :=
  evexOp EOp.vpshrdvq.row .v256 o 64 (shrdvElem 64) s

/-- VPSHRDVQ, 512 bits (R304). -/
def execVpshrdvq512 (o : EvexOps Rm) (s : State) :
    Host.Outcome State Fault Refusal :=
  evexOp EOp.vpshrdvq.row .v512 o 64 (shrdvElem 64) s

end Sys2Proof.Machine
end

