-- ==== Sys2Proof/Machine/Vnni.lean ====
section
/-! DEFINITION. AVX512_VNNI (47_vnni.md): dot products accumulated into 32-bit elements. -/

namespace Sys2Proof.Machine

/-- Product `i` of VPDPBUSD: byte `i` of `a` unsigned, byte `i` of `b` signed (R271). -/
def usProduct (a b : BitVec 32) (i : Nat) : Int :=
  ((a.extractLsb' (8 * i) 8).toNat : Int) * (b.extractLsb' (8 * i) 8).toInt

/-- Product `i` of VPDPWSSD: word `i` of `a` and of `b`, both signed (R273). -/
def ssProduct (a b : BitVec 32) (i : Nat) : Int :=
  (a.extractLsb' (16 * i) 16).toInt * (b.extractLsb' (16 * i) 16).toInt

/-- The exact five-term sum of VPDPBUSD and VPDPBUSDS (R271, R272). -/
def busdSum (d a b : BitVec 32) : Int :=
  d.toInt + usProduct a b 0 + usProduct a b 1 + usProduct a b 2 + usProduct a b 3

/-- The exact three-term sum of VPDPWSSD and VPDPWSSDS (R273, R274). -/
def wssdSum (d a b : BitVec 32) : Int := d.toInt + ssProduct a b 0 + ssProduct a b 1

/-- The sum modulo 2^32 (R271, R273). -/
def wrap32 (x : Int) : BitVec 32 := BitVec.ofInt 32 x

/-- `SIGNED_DWORD_SATURATE` (R272), applied once to the exact sum (D22). -/
def sat32 (x : Int) : BitVec 32 :=
  if 2147483647 < x then 0x7FFFFFFF else if x < -2147483648 then 0x80000000 else BitVec.ofInt 32 x

/-- A result element: the old destination, the first and the second source give a sum, which is
narrowed (R270). -/
def dotElem (sum : BitVec 32 → BitVec 32 → BitVec 32 → Int) (narrow : Int → BitVec 32)
    (d a b : Vec) (j : Nat) : BitVec 32 :=
  narrow (sum (elem 32 d j) (elem 32 a j) (elem 32 b j))

/-- VPDPBUSD, 128 bits (R271). -/
def execVpdpbusd128 (o : EvexOps Rm) (s : State) :
    Host.Outcome State Fault Refusal :=
  evexOp EOp.vpdpbusd.row .v128 o 32 (dotElem busdSum wrap32) s

/-- VPDPBUSD, 256 bits (R271). -/
def execVpdpbusd256 (o : EvexOps Rm) (s : State) :
    Host.Outcome State Fault Refusal :=
  evexOp EOp.vpdpbusd.row .v256 o 32 (dotElem busdSum wrap32) s

/-- VPDPBUSD, 512 bits (R271). -/
def execVpdpbusd512 (o : EvexOps Rm) (s : State) :
    Host.Outcome State Fault Refusal :=
  evexOp EOp.vpdpbusd.row .v512 o 32 (dotElem busdSum wrap32) s

/-- VPDPBUSDS, 128 bits (R272). -/
def execVpdpbusds128 (o : EvexOps Rm) (s : State) :
    Host.Outcome State Fault Refusal :=
  evexOp EOp.vpdpbusds.row .v128 o 32 (dotElem busdSum sat32) s

/-- VPDPBUSDS, 256 bits (R272). -/
def execVpdpbusds256 (o : EvexOps Rm) (s : State) :
    Host.Outcome State Fault Refusal :=
  evexOp EOp.vpdpbusds.row .v256 o 32 (dotElem busdSum sat32) s

/-- VPDPBUSDS, 512 bits (R272). -/
def execVpdpbusds512 (o : EvexOps Rm) (s : State) :
    Host.Outcome State Fault Refusal :=
  evexOp EOp.vpdpbusds.row .v512 o 32 (dotElem busdSum sat32) s

/-- VPDPWSSD, 128 bits (R273). -/
def execVpdpwssd128 (o : EvexOps Rm) (s : State) :
    Host.Outcome State Fault Refusal :=
  evexOp EOp.vpdpwssd.row .v128 o 32 (dotElem wssdSum wrap32) s

/-- VPDPWSSD, 256 bits (R273). -/
def execVpdpwssd256 (o : EvexOps Rm) (s : State) :
    Host.Outcome State Fault Refusal :=
  evexOp EOp.vpdpwssd.row .v256 o 32 (dotElem wssdSum wrap32) s

/-- VPDPWSSD, 512 bits (R273). -/
def execVpdpwssd512 (o : EvexOps Rm) (s : State) :
    Host.Outcome State Fault Refusal :=
  evexOp EOp.vpdpwssd.row .v512 o 32 (dotElem wssdSum wrap32) s

/-- VPDPWSSDS, 128 bits (R274). -/
def execVpdpwssds128 (o : EvexOps Rm) (s : State) :
    Host.Outcome State Fault Refusal :=
  evexOp EOp.vpdpwssds.row .v128 o 32 (dotElem wssdSum sat32) s

/-- VPDPWSSDS, 256 bits (R274). -/
def execVpdpwssds256 (o : EvexOps Rm) (s : State) :
    Host.Outcome State Fault Refusal :=
  evexOp EOp.vpdpwssds.row .v256 o 32 (dotElem wssdSum sat32) s

/-- VPDPWSSDS, 512 bits (R274). -/
def execVpdpwssds512 (o : EvexOps Rm) (s : State) :
    Host.Outcome State Fault Refusal :=
  evexOp EOp.vpdpwssds.row .v512 o 32 (dotElem wssdSum sat32) s

end Sys2Proof.Machine
end

