-- ==== Sys2Proof/Machine/Waitpkg.lean ====
section
/-! DEFINITION. UMONITOR, TPAUSE and UMWAIT (44_waitpkg.md). A wait takes several steps: the state holds
it (`wait`), and each step asks whether it goes on. -/

namespace Sys2Proof.Machine

/-! ## UMONITOR -/

/-- Arms the monitor at a linear address; a second UMONITOR replaces the range (R49, R200). -/
def State.arm (s : State) (la : Word) : State :=
  { s with monitor := { armed := true, addr := la, setBy := .umonitor } }

/-- The segment of UMONITOR: DS whatever the register is, unless overridden (R67, R200; log 19). -/
def monitorSeg (p : Pfx) : SegReg := p.override.getD .ds

/-- The exception of UMONITOR for an illegal address (R200, R313): #SS for SS in every mode, but #GP for
a null segment, whichever it is. -/
def State.monitorExc (s : State) (r : SegReg) : Exc :=
  if r = .ss ∧ ¬((s.mode = .prot ∨ s.mode = .compat) ∧ (s.seg r).null = true) then .ss else .gp

/-- UMONITOR (R200): #UD; then the checks of a byte load (R202), of which no data is taken; then, in a
transaction, the abort (R211; D25 has it after the address checks; log 19); then the monitor is
armed. -/
def execUmonitor (p : Pfx) (rm : Rm) (s : State) : Host.Outcome State Fault Refusal :=
  finish do
    stopIf (p.has .lock) s.ud
    stopIf (!s.hasAll [.waitpkg]) s.ud
    match rm with
    | .mem _ => .error s.ud
    | .reg r =>
      let ea := truncA (s.asize p) (s.gprAt (r.setWidth 4))
      let la ← s.checkLinear (s.monitorExc (monitorSeg p)) (monitorSeg p) ea 1 .read
      s.checkPages .read (s.span la 1)
      stopIf s.inTx (.fault .txAbort)
      .ok ((s.arm la).advance (Instr.umonitor p rm).len)

/-! ## TPAUSE and UMWAIT -/

/-- MAX_TIME of IA32_UMWAIT_CONTROL as a value: bits 31:2, the lower two bits zero (R42, R205). -/
def State.maxTime (s : State) : Nat := s.msr.umwaitControl.toNat / 4 * 4

/-- `UINT64(EDX:EAX)` (R205). -/
def State.instrDeadline (s : State) : Nat := (s.edx ++ s.eax).toNat

/-- `Deadline()` (R205): the deadline and whether it is the operating system's. A zero limit is no limit;
the sum does not wrap (D11); where the two are equal the instruction's own is used. -/
def State.deadline (s : State) : Nat × Bool :=
  let os := s.tsc.toNat + s.maxTime
  if s.maxTime ≠ 0 ∧ os < s.instrDeadline then (os, true) else (s.instrDeadline, false)

/-- `RequestedState` (R207): bit 0 of the control word set, or C02_DISABLE set, asks for C0.1. -/
def State.requestedState (s : State) (ctl : BitVec 32) : OptState :=
  if ctl.getLsbD 0 || s.msr.umwaitControl.getLsbD 0 then .c01 else .c02

/-- Whether the monitor lets an instruction wait: of no concern to TPAUSE; for UMWAIT it must be armed,
and by UMONITOR (R203, R204). -/
def State.monitorHolds (s : State) : WaitOp → Bool
  | .tpause => true
  | .umwait => s.monitor.armed && s.monitor.setBy = .umonitor

/-- Whether a wait goes on: the deadline is ahead and there is no wake event (R203, R204, R206). -/
def State.keepsWaiting (s : State) (w : Wait) : Bool :=
  decide (s.tsc.toNat < w.deadline) && s.pending.isEmpty && !w.woken && s.monitorHolds w.op &&
  !Config.optionalWake s.draws

/-- `t_end` (R208): TSC at any later moment, without wrap (D11; log 7). -/
def State.endTime (s : State) : Nat :=
  s.tsc.toNat + (Config.elapsed s.draws).toNat % (2 ^ 64 - s.tsc.toNat)

/-- TPAUSE and UMWAIT complete (R203, R204, R208): CF says that the operating system's limit was in use
and is exceeded. -/
def State.endWait (s : State) (w : Wait) : State :=
  { s with
    tsc := BitVec.ofNat 64 s.endTime
    rflags := writeStatus s.rflags (waitFlags (w.usingOs && decide (w.deadline < s.endTime)))
    wait := .running
    draws := s.draws + 1 }.advance w.len

/-- One look at a wait, at its entry and at each step of it: RESET# ends it for good (R206, R351;
log 28); it goes on; or the instruction completes. -/
def State.resumeWait (s : State) (w : Wait) : Except Stop State :=
  if s.pending.contains .reset then .error (.fault .resetSignal)
  else if s.keepsWaiting w then .ok { s with wait := .waiting w, draws := s.draws + 1 }
  else .ok (s.endWait w)

/-- The checks of TPAUSE and UMWAIT, giving the control word (R203, R204). -/
def State.enterWait (s : State) (p : Pfx) (rm : Rm) : Except Stop (BitVec 32) := do
  stopIf (p.has .lock) s.ud
  stopIf (!s.hasAll [.waitpkg]) s.ud
  match rm with
  | .mem _ => .error s.ud
  | .reg r =>
    let src := (s.gprAt (r.setWidth 4)).setWidth 32
    stopIf (src >>> 1 ≠ 0) s.gp
    .ok src

/-- The wait that a control word asks for. -/
def State.newWait (s : State) (op : WaitOp) (ctl : BitVec 32) (len : Nat) : Wait :=
  { op := op, level := s.requestedState ctl, deadline := s.deadline.1, usingOs := s.deadline.2,
    len := len, woken := false }

/-- TPAUSE (R203). -/
def execTpause (p : Pfx) (rm : Rm) (s : State) : Host.Outcome State Fault Refusal :=
  finish do
    let ctl ← s.enterWait p rm
    s.resumeWait (s.newWait .tpause ctl (Instr.tpause p rm).len)

/-- UMWAIT (R204): the #GP(0) test precedes the abort in a transaction (D25). -/
def execUmwait (p : Pfx) (rm : Rm) (s : State) : Host.Outcome State Fault Refusal :=
  finish do
    let ctl ← s.enterWait p rm
    stopIf s.inTx (.fault .txAbort)
    s.resumeWait (s.newWait .umwait ctl (Instr.umwait p rm).len)

end Sys2Proof.Machine
end

