-- ==== Sys2Proof/Machine/Dispatch.lean ====
section
/-! DEFINITION. One arm per constructor of `Instr`, each a direct call of that instruction's meaning. -/

namespace Sys2Proof.Machine

/-- What an instruction does. -/
def exec (i : Instr) (s : State) : Host.Outcome State Fault Refusal :=
  match i with
  | .cldemote p m => Sys2Proof.Machine.execCldemote p m s
  | .gf2p8affineinvqb p reg rm imm => Sys2Proof.Machine.execGf2p8affineinvqb p reg rm imm s
  | .gf2p8affineqb p reg rm imm => Sys2Proof.Machine.execGf2p8affineqb p reg rm imm s
  | .gf2p8mulb p reg rm => Sys2Proof.Machine.execGf2p8mulb p reg rm s
  | .movdiri32 p m reg => Sys2Proof.Machine.execMovdiri32 p m reg s
  | .movdiri64 p m reg => Sys2Proof.Machine.execMovdiri64 p m reg s
  | .movdir64b p reg m => Sys2Proof.Machine.execMovdir64b p reg m s
  | .pconfig p => Sys2Proof.Machine.execPconfig p s
  | .tpause p rm => Sys2Proof.Machine.execTpause p rm s
  | .umonitor p rm => Sys2Proof.Machine.execUmonitor p rm s
  | .umwait p rm => Sys2Proof.Machine.execUmwait p rm s
  | .wbnoinvd p => Sys2Proof.Machine.execWbnoinvd p s
  | .vgf2p8affineinvqbVex128 o imm => Sys2Proof.Machine.execVgf2p8affineinvqbVex128 o imm s
  | .vgf2p8affineinvqbVex256 o imm => Sys2Proof.Machine.execVgf2p8affineinvqbVex256 o imm s
  | .vgf2p8affineqbVex128 o imm => Sys2Proof.Machine.execVgf2p8affineqbVex128 o imm s
  | .vgf2p8affineqbVex256 o imm => Sys2Proof.Machine.execVgf2p8affineqbVex256 o imm s
  | .vgf2p8mulbVex128 o => Sys2Proof.Machine.execVgf2p8mulbVex128 o s
  | .vgf2p8mulbVex256 o => Sys2Proof.Machine.execVgf2p8mulbVex256 o s
  | .vaesdecVex256 o => Sys2Proof.Machine.execVaesdecVex256 o s
  | .vaesdeclastVex256 o => Sys2Proof.Machine.execVaesdeclastVex256 o s
  | .vaesencVex256 o => Sys2Proof.Machine.execVaesencVex256 o s
  | .vaesenclastVex256 o => Sys2Proof.Machine.execVaesenclastVex256 o s
  | .vpclmulqdqVex256 o imm => Sys2Proof.Machine.execVpclmulqdqVex256 o imm s
  | .vgf2p8affineinvqbEvex128 o imm => Sys2Proof.Machine.execVgf2p8affineinvqbEvex128 o imm s
  | .vgf2p8affineinvqbEvex256 o imm => Sys2Proof.Machine.execVgf2p8affineinvqbEvex256 o imm s
  | .vgf2p8affineinvqbEvex512 o imm => Sys2Proof.Machine.execVgf2p8affineinvqbEvex512 o imm s
  | .vgf2p8affineqbEvex128 o imm => Sys2Proof.Machine.execVgf2p8affineqbEvex128 o imm s
  | .vgf2p8affineqbEvex256 o imm => Sys2Proof.Machine.execVgf2p8affineqbEvex256 o imm s
  | .vgf2p8affineqbEvex512 o imm => Sys2Proof.Machine.execVgf2p8affineqbEvex512 o imm s
  | .vgf2p8mulbEvex128 o => Sys2Proof.Machine.execVgf2p8mulbEvex128 o s
  | .vgf2p8mulbEvex256 o => Sys2Proof.Machine.execVgf2p8mulbEvex256 o s
  | .vgf2p8mulbEvex512 o => Sys2Proof.Machine.execVgf2p8mulbEvex512 o s
  | .vaesdecEvex128 o => Sys2Proof.Machine.execVaesdecEvex128 o s
  | .vaesdecEvex256 o => Sys2Proof.Machine.execVaesdecEvex256 o s
  | .vaesdecEvex512 o => Sys2Proof.Machine.execVaesdecEvex512 o s
  | .vaesdeclastEvex128 o => Sys2Proof.Machine.execVaesdeclastEvex128 o s
  | .vaesdeclastEvex256 o => Sys2Proof.Machine.execVaesdeclastEvex256 o s
  | .vaesdeclastEvex512 o => Sys2Proof.Machine.execVaesdeclastEvex512 o s
  | .vaesencEvex128 o => Sys2Proof.Machine.execVaesencEvex128 o s
  | .vaesencEvex256 o => Sys2Proof.Machine.execVaesencEvex256 o s
  | .vaesencEvex512 o => Sys2Proof.Machine.execVaesencEvex512 o s
  | .vaesenclastEvex128 o => Sys2Proof.Machine.execVaesenclastEvex128 o s
  | .vaesenclastEvex256 o => Sys2Proof.Machine.execVaesenclastEvex256 o s
  | .vaesenclastEvex512 o => Sys2Proof.Machine.execVaesenclastEvex512 o s
  | .vpclmulqdqEvex128 o imm => Sys2Proof.Machine.execVpclmulqdqEvex128 o imm s
  | .vpclmulqdqEvex256 o imm => Sys2Proof.Machine.execVpclmulqdqEvex256 o imm s
  | .vpclmulqdqEvex512 o imm => Sys2Proof.Machine.execVpclmulqdqEvex512 o imm s
  | .vpdpbusd128 o => Sys2Proof.Machine.execVpdpbusd128 o s
  | .vpdpbusd256 o => Sys2Proof.Machine.execVpdpbusd256 o s
  | .vpdpbusd512 o => Sys2Proof.Machine.execVpdpbusd512 o s
  | .vpdpbusds128 o => Sys2Proof.Machine.execVpdpbusds128 o s
  | .vpdpbusds256 o => Sys2Proof.Machine.execVpdpbusds256 o s
  | .vpdpbusds512 o => Sys2Proof.Machine.execVpdpbusds512 o s
  | .vpdpwssd128 o => Sys2Proof.Machine.execVpdpwssd128 o s
  | .vpdpwssd256 o => Sys2Proof.Machine.execVpdpwssd256 o s
  | .vpdpwssd512 o => Sys2Proof.Machine.execVpdpwssd512 o s
  | .vpdpwssds128 o => Sys2Proof.Machine.execVpdpwssds128 o s
  | .vpdpwssds256 o => Sys2Proof.Machine.execVpdpwssds256 o s
  | .vpdpwssds512 o => Sys2Proof.Machine.execVpdpwssds512 o s
  | .vpopcntb128 o => Sys2Proof.Machine.execVpopcntb128 o s
  | .vpopcntb256 o => Sys2Proof.Machine.execVpopcntb256 o s
  | .vpopcntb512 o => Sys2Proof.Machine.execVpopcntb512 o s
  | .vpopcntw128 o => Sys2Proof.Machine.execVpopcntw128 o s
  | .vpopcntw256 o => Sys2Proof.Machine.execVpopcntw256 o s
  | .vpopcntw512 o => Sys2Proof.Machine.execVpopcntw512 o s
  | .vpopcntd128 o => Sys2Proof.Machine.execVpopcntd128 o s
  | .vpopcntd256 o => Sys2Proof.Machine.execVpopcntd256 o s
  | .vpopcntd512 o => Sys2Proof.Machine.execVpopcntd512 o s
  | .vpopcntq128 o => Sys2Proof.Machine.execVpopcntq128 o s
  | .vpopcntq256 o => Sys2Proof.Machine.execVpopcntq256 o s
  | .vpopcntq512 o => Sys2Proof.Machine.execVpopcntq512 o s
  | .vpshldw128 o imm => Sys2Proof.Machine.execVpshldw128 o imm s
  | .vpshldw256 o imm => Sys2Proof.Machine.execVpshldw256 o imm s
  | .vpshldw512 o imm => Sys2Proof.Machine.execVpshldw512 o imm s
  | .vpshldd128 o imm => Sys2Proof.Machine.execVpshldd128 o imm s
  | .vpshldd256 o imm => Sys2Proof.Machine.execVpshldd256 o imm s
  | .vpshldd512 o imm => Sys2Proof.Machine.execVpshldd512 o imm s
  | .vpshldq128 o imm => Sys2Proof.Machine.execVpshldq128 o imm s
  | .vpshldq256 o imm => Sys2Proof.Machine.execVpshldq256 o imm s
  | .vpshldq512 o imm => Sys2Proof.Machine.execVpshldq512 o imm s
  | .vpshldvw128 o => Sys2Proof.Machine.execVpshldvw128 o s
  | .vpshldvw256 o => Sys2Proof.Machine.execVpshldvw256 o s
  | .vpshldvw512 o => Sys2Proof.Machine.execVpshldvw512 o s
  | .vpshldvd128 o => Sys2Proof.Machine.execVpshldvd128 o s
  | .vpshldvd256 o => Sys2Proof.Machine.execVpshldvd256 o s
  | .vpshldvd512 o => Sys2Proof.Machine.execVpshldvd512 o s
  | .vpshldvq128 o => Sys2Proof.Machine.execVpshldvq128 o s
  | .vpshldvq256 o => Sys2Proof.Machine.execVpshldvq256 o s
  | .vpshldvq512 o => Sys2Proof.Machine.execVpshldvq512 o s
  | .vpshrdw128 o imm => Sys2Proof.Machine.execVpshrdw128 o imm s
  | .vpshrdw256 o imm => Sys2Proof.Machine.execVpshrdw256 o imm s
  | .vpshrdw512 o imm => Sys2Proof.Machine.execVpshrdw512 o imm s
  | .vpshrdd128 o imm => Sys2Proof.Machine.execVpshrdd128 o imm s
  | .vpshrdd256 o imm => Sys2Proof.Machine.execVpshrdd256 o imm s
  | .vpshrdd512 o imm => Sys2Proof.Machine.execVpshrdd512 o imm s
  | .vpshrdq128 o imm => Sys2Proof.Machine.execVpshrdq128 o imm s
  | .vpshrdq256 o imm => Sys2Proof.Machine.execVpshrdq256 o imm s
  | .vpshrdq512 o imm => Sys2Proof.Machine.execVpshrdq512 o imm s
  | .vpshrdvw128 o => Sys2Proof.Machine.execVpshrdvw128 o s
  | .vpshrdvw256 o => Sys2Proof.Machine.execVpshrdvw256 o s
  | .vpshrdvw512 o => Sys2Proof.Machine.execVpshrdvw512 o s
  | .vpshrdvd128 o => Sys2Proof.Machine.execVpshrdvd128 o s
  | .vpshrdvd256 o => Sys2Proof.Machine.execVpshrdvd256 o s
  | .vpshrdvd512 o => Sys2Proof.Machine.execVpshrdvd512 o s
  | .vpshrdvq128 o => Sys2Proof.Machine.execVpshrdvq128 o s
  | .vpshrdvq256 o => Sys2Proof.Machine.execVpshrdvq256 o s
  | .vpshrdvq512 o => Sys2Proof.Machine.execVpshrdvq512 o s
  | .vpshufbitqmb128 o => Sys2Proof.Machine.execVpshufbitqmb128 o s
  | .vpshufbitqmb256 o => Sys2Proof.Machine.execVpshufbitqmb256 o s
  | .vpshufbitqmb512 o => Sys2Proof.Machine.execVpshufbitqmb512 o s
  | .vpcompressb128m o => Sys2Proof.Machine.execVpcompressb128m o s
  | .vpcompressb128r o => Sys2Proof.Machine.execVpcompressb128r o s
  | .vpcompressb256m o => Sys2Proof.Machine.execVpcompressb256m o s
  | .vpcompressb256r o => Sys2Proof.Machine.execVpcompressb256r o s
  | .vpcompressb512m o => Sys2Proof.Machine.execVpcompressb512m o s
  | .vpcompressb512r o => Sys2Proof.Machine.execVpcompressb512r o s
  | .vpcompressw128m o => Sys2Proof.Machine.execVpcompressw128m o s
  | .vpcompressw128r o => Sys2Proof.Machine.execVpcompressw128r o s
  | .vpcompressw256m o => Sys2Proof.Machine.execVpcompressw256m o s
  | .vpcompressw256r o => Sys2Proof.Machine.execVpcompressw256r o s
  | .vpcompressw512m o => Sys2Proof.Machine.execVpcompressw512m o s
  | .vpcompressw512r o => Sys2Proof.Machine.execVpcompressw512r o s
  | .vpexpandb128m o => Sys2Proof.Machine.execVpexpandb128m o s
  | .vpexpandb128r o => Sys2Proof.Machine.execVpexpandb128r o s
  | .vpexpandb256m o => Sys2Proof.Machine.execVpexpandb256m o s
  | .vpexpandb256r o => Sys2Proof.Machine.execVpexpandb256r o s
  | .vpexpandb512m o => Sys2Proof.Machine.execVpexpandb512m o s
  | .vpexpandb512r o => Sys2Proof.Machine.execVpexpandb512r o s
  | .vpexpandw128m o => Sys2Proof.Machine.execVpexpandw128m o s
  | .vpexpandw128r o => Sys2Proof.Machine.execVpexpandw128r o s
  | .vpexpandw256m o => Sys2Proof.Machine.execVpexpandw256m o s
  | .vpexpandw256r o => Sys2Proof.Machine.execVpexpandw256r o s
  | .vpexpandw512m o => Sys2Proof.Machine.execVpexpandw512m o s
  | .vpexpandw512r o => Sys2Proof.Machine.execVpexpandw512r o s

end Sys2Proof.Machine
end

