-- ==== Sys2Proof/Machine/Fetch.lean ====
section
/-! DEFINITION. What a step does around an instruction: the environment's input and the time-stamp counter
before it, fetching and reading it, and the range of RIP after it. -/

namespace Sys2Proof.Machine

/-! ## The environment -/

/-- A wait is ended by a store of another agent to the read-set, for TPAUSE in a transaction (R206
item 3). A store that lands before TPAUSE has started to wait ends no wait: that it does not is the model's
choice (DESIGN CHOICE, log 41). -/
def State.wakeByStore (s : State) (pas : List Nat) : WaitState :=
  match s.wait with
  | .running => .running
  | .waiting w =>
    if w.op = .tpause && s.inTx && pas.any s.tsx.readSet.contains then
      .waiting { w with woken := true }
    else .waiting w

/-- What one input does (R50, R51, R55, R193, R201, R206; log 21). KeyID 0 is programmed by no one (R189). -/
def State.applyInput (s : State) : Input → State
  | .raiseEvent e => { s with pending := if s.pending.contains e then s.pending else e :: s.pending }
  | .lowerEvent e => { s with pending := s.pending.filter (· ≠ e) }
  | .store cells =>
    let pas := cells.map (·.1.toNat)
    let bs := cells.map (·.2)
    { s.landStore pas bs with
      wait := s.wakeByStore pas
      racing := replacedBytes s.mem pas bs }
  | .lockKeys n =>
    { s with keyLock := if s.keyLock = .unlocked then .exclusive (.other n) else s.keyLock }
  | .unlockKeys n =>
    { s with keyLock := if s.keyLock = .exclusive (.other n) then .unlocked else s.keyLock }
  | .programKey n id e =>
    if s.keyLock = .exclusive (.other n) ∧ id ≠ 0 then s.setKey id.toNat e else s

/-- At most one input lands at an instruction boundary, or between two steps of a wait; stores that raced
with the instruction before are over. -/
def State.landInput (s : State) : State :=
  match s.inputs with
  | [] => { s with racing := [] }
  | i :: t => State.applyInput { s with inputs := t, racing := [] } i

/-- TSC after it has counted on (R48, R343, D11; log 7): never lower, no wrap, and strictly higher over
a step of a wait unless it is at its top (log 23). -/
def State.laterTsc (s : State) : Nat :=
  let least := if s.wait ≠ .running ∧ s.tsc.toNat + 1 < 2 ^ 64 then s.tsc.toNat + 1 else s.tsc.toNat
  least + (Config.elapsed s.draws).toNat % (2 ^ 64 - least)

/-- TSC counts on. -/
def State.tick (s : State) : State :=
  { s with tsc := BitVec.ofNat 64 s.laterTsc, draws := s.draws + 1 }

/-- What happens before an instruction starts, and before a wait is looked at again. -/
def State.beginStep (s : State) : State := s.landInput.tick

/-! ## Fetching -/

/-- The address of the `i`-th byte from RIP (R24, R86; log 16): 64 bits in 64-bit mode, 32 in the
others. R24 gives RIP "its low 16 or 32 bits" in real-address and virtual-8086 mode; that they are 32 is
the model's choice (DESIGN CHOICE, log 38). -/
def State.fetchAddr (s : State) (i : Nat) : Nat :=
  if s.mode = .bits64 then (s.rip.toNat + i) % 2 ^ 64 else s.rip.toNat % 2 ^ 32 + i

/-- The place in memory of the `i`-th byte from RIP (R60, R86; log 16). -/
def State.fetchPlace (s : State) (i : Nat) : Nat := s.place .read (s.fetchAddr i)

/-- The 15 bytes from RIP: an instruction has at most that many (R90). -/
def State.fetchBytes (s : State) : List Byte :=
  (List.range 15).map fun i => s.byteAt (s.fetchPlace i)

/-- Whether an instruction of `n` bytes at RIP, or an end of one at RIP + `n`, leaves the range of RIP:
canonical addresses, or the first 2^32 (R24, D6). With `last` = `n` - 1 the bytes are asked about, with
`last` = `n` the address after them. -/
def State.ripInRange (s : State) (last : Nat) : Bool :=
  if s.mode = .bits64 then
    s.rip.toNat + last < 2 ^ 64 &&
    canonical s.cfg.laBits s.rip && canonical s.cfg.laBits (s.rip + BitVec.ofNat 64 last)
  else s.rip.toNat % 2 ^ 32 + last < 2 ^ 32

/-- The `n` bytes from RIP are executed: they are in range (D6), and the program has not stored to them
since the last WBNOINVD (R86, D4). -/
def State.guardFetch (s : State) (n : Nat) : Except Stop Unit := do
  stopIf (!s.ripInRange (n - 1)) (.refuse .ripRange)
  stopIf ((List.range n).any fun i => s.written.contains (s.fetchPlace i)) (.refuse .selfModified)

/-- Reads the instruction at RIP (R86, R90, R116, R118, R119, R131), its range and its bytes checked
(D4, D6), also where they are no instruction but raise #UD, or #GP since 15 bytes do not hold it. -/
def State.fetch (s : State) : Except Stop Instr :=
  match decode s.mode s.segs.csD s.fetchBytes with
  | .error .short => do
    s.guardFetch 15
    .error s.gp
  | .error (.ud left) => do
    s.guardFetch (15 - left)
    .error s.ud
  | .error .outside => .error (.refuse .outsideSource)
  | .error .evexExt => .error (.refuse .evexExtension)
  | .ok (i, _) => do
    s.guardFetch i.len
    .ok i

/-- An instruction that would complete with RIP out of range is refused (R24, D6). `s` is the state before
it, `n` its length. -/
def State.guardRip (s : State) (n : Nat) (o : Host.Outcome State Fault Refusal) :
    Host.Outcome State Fault Refusal :=
  match o with
  | .next t => if s.ripInRange n then .next t else .refused .ripRange
  | .fault f => .fault f
  | .refused r => .refused r

end Sys2Proof.Machine
end

