-- ==== Sys2Proof/Machine/Step.lean ====
section
/-! DEFINITION. One step of the machine, and a state whose next step runs a given instruction. -/

namespace Sys2Proof.Machine

/-- One step: the environment and the time-stamp counter move; then a wait in progress is looked at
again, or the instruction at RIP is read and runs (R13, R310). -/
def step (s : State) : Host.Outcome State Fault Refusal :=
  let t := s.beginStep
  match t.wait with
  | .waiting w => finish (t.resumeWait w)
  | .running =>
    match t.fetch with
    | .error e => e.outcome
    | .ok i => t.guardRip i.len (exec i t)

/-- The state with the instruction of a word of the opcode table stored at RIP, no wait in progress, no
input due and no byte counted as written by the program (log 1, log 25). -/
def State.withFetchWord (s : State) (nbits w : Nat) : State :=
  { s with
    mem := writeBytes s.mem ((List.range 15).map s.fetchPlace) (tableBytes nbits w)
    wait := .running
    written := []
    inputs := [] }

end Sys2Proof.Machine
end

