-- ==== Sys2Proof/Safety.lean ====
section
/-! DEFINITION. The terms of the claims: when an instruction's first checks pass, what an instruction
leaves as it was, and the invariant of the machine. -/

namespace Sys2Proof

/-- What stands before the opcode, VEX or EVEX bytes of an instruction (R90). -/
def Form.pfx : Form → Pfx
  | .legacy _ p _ _ _ => p
  | .vex _ _ o _ => o.pfx
  | .evex _ _ o _ => o.pfx

end Sys2Proof

namespace Sys2Proof.Machine

/-! ## When the first checks pass -/

/-- A legacy-SSE form gets past #UD and #NM (R318, R319). -/
structure State.SseReady (s : State) (p : Pfx) : Prop where
  lock : p.has .lock = false
  feature : s.hasAll [.gfni] = true
  enabled : s.sseEnabled = true
  ts : s.taskSwitched = false

/-- A VEX form meets no #UD condition (R109, R318), and MAXVL holds its operands (DEDUCED, log 6). -/
structure State.VexLegal (s : State) (r : VexRow) (vl : VL) (o : VexOps) : Prop where
  pfx : badBeforeVector o.pfx = false
  notReal : s.mode ≠ .real
  notV86 : s.mode ≠ .v86
  feature : s.hasAll r.feats = true
  length : 8 * vlBytes vl ≤ s.cfg.maxvl.bits
  enabled : s.avxEnabled = true

/-- A VEX form gets past #UD and #NM (R318, R319). -/
structure State.VexReady (s : State) (r : VexRow) (vl : VL) (o : VexOps) : Prop where
  legal : s.VexLegal r vl o
  ts : s.taskSwitched = false

/-- An EVEX form meets no #UD condition (R115 to R121, R318). -/
structure State.EvexLegal (s : State) (r : EvexRow) (vl : VL) (o : EvexOps Rm) : Prop where
  pfx : badBeforeVector o.pfx = false
  notReal : s.mode ≠ .real
  notV86 : s.mode ≠ .v86
  reserved : evexReserved r o = false
  feature : s.hasAll (rowFeatures r vl) = true
  enabled : s.avx512Enabled = true

/-- An EVEX form gets past #UD and #NM (R318, R320, R321). -/
structure State.EvexReady (s : State) (r : EvexRow) (vl : VL) (o : EvexOps Rm) : Prop where
  legal : s.EvexLegal r vl o
  ts : s.taskSwitched = false

/-- MOVDIRI and MOVDIR64B get to their operands (R170, R173, R342). -/
structure State.DirectReady (s : State) (p : Pfx) (f : Feature) : Prop where
  lock : p.has .lock = false
  feature : s.hasAll [f] = true
  noTx : s.inTx = false

/-- PCONFIG gets to its structure (R180, R187, R342): no prefix of R94, a mode that has it, the feature,
CPL 0, no exit from VMX non-root operation, leaf 0, MKTME activated, no transaction. -/
structure State.PconfigReady (s : State) (p : Pfx) : Prop where
  lock : p.has .lock = false
  rep : p.has .rep = false
  repne : p.has .repne = false
  osize : p.has .osize = false
  mode : s.mode ≠ .v86
  feature : s.hasAll [.pconfig] = true
  cpl : s.cpl = 0
  guest : s.inGuest = true → s.vmx.pconfigEnable = true ∧ s.vmx.pconfigExiting.getLsbD 0 = false
  leaf : s.eax = 0
  active : s.msr.tmeLock = true ∧ s.msr.tmeEnable = true ∧ s.msr.tmeKeyidBits ≠ 0
  noTx : s.inTx = false

/-- The structure of PCONFIG is at `la`: inside its segment, 256-byte aligned and readable, its reserved
bytes 0 (R187, R188). -/
structure State.KeyStructAt (s : State) (la : Word) : Prop where
  seg : s.segOk .ds s.keyAddr 192 .read = true
  addr : s.linear .ds s.keyAddr = la
  aligned : la.toNat % 256 = 0
  pages : s.pageFault .read (s.span la 192) = none
  reserved : ∀ i, i = 5 ∨ 6 ≤ i ∧ i < 64 ∨ 80 ≤ i ∧ i < 128 ∨ 144 ≤ i ∧ i < 192 →
    s.readAt (s.byteAddr la i) = 0

/-- TPAUSE and UMWAIT get past their faults, with a register of number `r` as control word (R203, R204). -/
structure State.WaitReady (s : State) (p : Pfx) (r : BitVec 5) : Prop where
  lock : p.has .lock = false
  feature : s.hasAll [.waitpkg] = true
  control : ((s.gprAt (r.setWidth 4)).setWidth 32 : BitVec 32).toNat < 2

/-- What #SS, #GP and #AC carry as error code: 0, but nothing in real-address mode (R66, R313, R316). -/
def State.code0 (s : State) : Option (BitVec 32) := if s.mode = .real then none else some 0

/-- One piece of a memory operand, `n` bytes from an offset in a segment, raises the fault `f`: the
exception of an illegal address, else the page fault of its lowest byte that does not translate (R66,
R74; log 20). -/
def State.PieceFaults (s : State) (g : SegReg) (ea : Word) (n : Nat) (acc : Access) (f : Fault) :
    Prop :=
  s.segOk g ea n acc = false ∧ f = .exception (s.segExc g) s.code0 none ∨
  s.segOk g ea n acc = true ∧ ∃ a c, s.pageFault acc (s.span (s.linear g ea) n) = some (a, c) ∧
    f = .exception .pf (some c) (some (BitVec.ofNat 64 a))

/-- One piece of a memory operand raises no fault. -/
def State.PiecePasses (s : State) (g : SegReg) (ea : Word) (n : Nat) (acc : Access) : Prop :=
  s.segOk g ea n acc = true ∧ s.pageFault acc (s.span (s.linear g ea) n) = none

/-! ## What stays as it was -/

/-- What no instruction in scope changes (R337, R338): the configuration, segment and control registers,
MSRs, VMX and TSX state, the page rules; and the environment's own: pending events, inputs and the bytes
that its stores replaced. -/
structure SameFixed (s t : State) : Prop where
  cfg : t.cfg = s.cfg
  segs : t.segs = s.segs
  ctl : t.ctl = s.ctl
  msr : t.msr = s.msr
  vmx : t.vmx = s.vmx
  tsx : t.tsx = s.tsx
  pages : t.pages = s.pages
  pending : t.pending = s.pending
  inputs : t.inputs = s.inputs
  racing : t.racing = s.racing

/-- The general registers but those listed, the vector registers but those listed, the mask registers
but those listed, and every byte of memory but those at the listed places are as they were. -/
structure Frame (gs : List (BitVec 4)) (zs : List (BitVec 5)) (ks : List (BitVec 3))
    (places : List Nat) (s t : State) : Prop where
  gpr : ∀ r, r ∉ gs → t.gprAt r = s.gprAt r
  zmm : ∀ r, r ∉ zs → t.zmmAt r = s.zmmAt r
  k : ∀ r, r ∉ ks → t.kAt r = s.kAt r
  byte : ∀ a, a ∉ places → t.byteAt a = s.byteAt a
  fixed : SameFixed s t

/-- The key table and its lock are as they were (R50, R51). -/
structure SameKeys (s t : State) : Prop where
  lock : t.keyLock = s.keyLock
  table : t.keyTable = s.keyTable

/-- The time-stamp counter and the wait state are as they were (R48, R54). -/
structure SameTime (s t : State) : Prop where
  tsc : t.tsc = s.tsc
  wait : t.wait = s.wait

/-- The monitor and the model's own record of stores are as they were (R49, R86). -/
structure SameMonitor (s t : State) : Prop where
  monitor : t.monitor = s.monitor
  written : t.written = s.written

/-- Flags, keys, time and monitor are as they were. -/
structure Still (s t : State) : Prop where
  rflags : t.rflags = s.rflags
  keys : SameKeys s t
  time : SameTime s t
  monitor : SameMonitor s t

/-- Flags, keys, time and monitor are as they were, and no free value was taken. -/
structure Quiet (s t : State) : Prop where
  still : Still s t
  draws : t.draws = s.draws

/-- What a store leaves of the monitor: as it was, or as it was but not armed (R49, R201). -/
def StoreMonitor (s t : State) : Prop :=
  t.monitor = s.monitor ∨ t.monitor = { s.monitor with armed := false }

/-- What the stores leave besides memory: flags, keys, time as they were, the monitor as a store leaves
it, the places stored to counted as written by the program (R49, R86). -/
structure StoreRest (places : List Nat) (s t : State) : Prop where
  rflags : t.rflags = s.rflags
  keys : SameKeys s t
  time : SameTime s t
  monitor : StoreMonitor s t
  written : ∀ a, a ∈ t.written ↔ a ∈ places ∨ a ∈ s.written

/-- Bytes `b 0` to `b (n - 1)` stored at the operand at `la` are in memory at their places (R62). Where two
bytes of the operand share a place (R74), the later one is there. -/
def Stored (s t : State) (la : Word) (n : Nat) (b : Nat → Byte) : Prop :=
  ∀ j, j < n →
    (∀ k, j < k → k < n →
      s.place .write (s.byteAddr la k) ≠ s.place .write (s.byteAddr la j)) →
    t.byteAt (s.place .write (s.byteAddr la j)) = b j

/-! ## Results -/

/-- `t` is what a vector instruction of `len` bytes leaves that writes vector register `r` and nothing
else but RIP (R24, R26). -/
structure WritesVector (r : BitVec 5) (len : Nat) (s t : State) : Prop where
  frame : Frame [] [r] [] [] s t
  quiet : Quiet s t
  rip : t.rip = s.rip + BitVec.ofNat 64 len

/-- Elements of `w` bits below the vector length are `f` where active, else 0 under zeroing and the old
element under merging; the bits above the vector length are 0 (R36, R120, R123). -/
structure MaskedResult (w : Nat) (vl : VL) (aaa : BitVec 3) (z : Bool) (s : State) (old new : Vec)
    (f : Nat → BitVec w) : Prop where
  active : ∀ j, j < vlElems vl w → s.active aaa j = true → elem w new j = f j
  zeroed : ∀ j, j < vlElems vl w → s.active aaa j = false → z = true → elem w new j = 0
  merged : ∀ j, j < vlElems vl w → s.active aaa j = false → z = false → elem w new j = elem w old j
  upper : ∀ n, 8 * vlBytes vl ≤ n → new.getLsbD n = false

/-- An EVEX form with a vector destination completes: for every state that gets past its first checks
and every source operand it can read, the next state holds the masked result and everything else is as
it was. `f` gives an element from the old destination and the two sources. -/
def EvexCompletes (i : Instr) (r : EvexRow) (vl : VL) (o : EvexOps Rm) (w : Nat)
    (f : Vec → Vec → Vec → Nat → BitVec w) : Prop :=
  ∀ (s : State) (src : Vec), s.EvexReady r vl o → s.evexSource r vl o = .ok src →
    ∃ t, exec i s = .next t ∧
      MaskedResult w vl o.aaa o.z s (s.zmmAt o.reg) (t.zmmAt o.reg)
        (f (s.zmmAt o.reg) (s.zmmAt o.vvvv) src) ∧
      WritesVector o.reg i.len s t

/-- A VEX form completes: elements are `f` of the two sources, the bits above are 0 (R36, R114). -/
def VexCompletes (i : Instr) (r : VexRow) (vl : VL) (o : VexOps) (w : Nat)
    (f : Vec → Vec → Nat → BitVec w) : Prop :=
  ∀ (s : State) (src : Vec), s.VexReady r vl o →
    s.vexSource o.pfx i.len (vlBytes vl) o.rm = .ok src →
    ∃ t, exec i s = .next t ∧
      (∀ j, j < vlElems vl w →
        elem w (t.zmmAt (o.reg.setWidth 5)) j = f (s.zmmAt (o.vvvv.setWidth 5)) src j) ∧
      (∀ n, 8 * vlBytes vl ≤ n → (t.zmmAt (o.reg.setWidth 5)).getLsbD n = false) ∧
      WritesVector (o.reg.setWidth 5) i.len s t

/-- A legacy-SSE form completes: the 16 low bytes are `f` of the old destination and the source, the
bits above are as they were (R36). -/
def SseCompletes (i : Instr) (p : Pfx) (reg : BitVec 4) (rm : Rm) (f : Vec → Vec → Nat → Byte) :
    Prop :=
  ∀ (s : State) (src : Vec), s.SseReady p → s.sseSource p i.len rm = .ok src →
    ∃ t, exec i s = .next t ∧
      (∀ j, j < 16 →
        elem 8 (t.zmmAt (reg.setWidth 5)) j = f (s.zmmAt (reg.setWidth 5)) src j) ∧
      (∀ n, 128 ≤ n →
        (t.zmmAt (reg.setWidth 5)).getLsbD n = (s.zmmAt (reg.setWidth 5)).getLsbD n) ∧
      WritesVector (reg.setWidth 5) i.len s t

/-- What PCONFIG leaves in registers, flags and RIP when it returns `code` (R182, R186): EAX, and RAX in
64-bit mode, hold the code; ZF says failure and the other five status flags are 0; no other register,
no byte of memory and no other bit of RFLAGS changes. -/
structure PconfigReturns (code : Nat) (len : Nat) (s t : State) : Prop where
  eax : t.eax = BitVec.ofNat 32 code
  rax : s.mode = .bits64 → t.gprAt 0 = BitVec.ofNat 64 code
  flags : statusOf t.rflags =
    { cf := false, pf := false, af := false, zf := decide (code ≠ 0), sf := false, ovf := false }
  other : ∀ n, statusMask.getLsbD n = false → t.rflags.getLsbD n = s.rflags.getLsbD n
  frame : Frame [0] [] [] [] s t
  time : SameTime s t
  monitor : SameMonitor s t
  rip : t.rip = s.rip + BitVec.ofNat 64 len

/-- TPAUSE or UMWAIT of `len` bytes completes (R203, R204, R208): the processor runs again, TSC has not
gone back, CF says that the operating system's limit was in use and is exceeded, the other five status
flags are 0, and everything else is as it was. -/
structure WaitEnds (deadline : Nat) (usingOs : Bool) (len : Nat) (s t : State) : Prop where
  wait : t.wait = .running
  tsc : s.tsc.toNat ≤ t.tsc.toNat
  flags : statusOf t.rflags =
    { cf := usingOs && decide (deadline < t.tsc.toNat), pf := false, af := false, zf := false,
      sf := false, ovf := false }
  other : ∀ n, statusMask.getLsbD n = false → t.rflags.getLsbD n = s.rflags.getLsbD n
  frame : Frame [] [] [] [] s t
  keys : SameKeys s t
  monitor : SameMonitor s t
  rip : t.rip = s.rip + BitVec.ofNat 64 len

/-- The wait `w` goes on: nothing but the wait state has changed (R54, R210). -/
structure WaitGoesOn (w : Wait) (s t : State) : Prop where
  wait : t.wait = .waiting w
  tsc : t.tsc = s.tsc
  rflags : t.rflags = s.rflags
  frame : Frame [] [] [] [] s t
  keys : SameKeys s t
  monitor : SameMonitor s t
  rip : t.rip = s.rip

/-! ## The invariant -/

/-- What holds of every state: memory and the key table in canonical form, inside their index ranges
(R51, R60), KeyID 0 never programmed (R189), RFLAGS bit 1 is 1 (R25), a wait's deadline is a 64-bit
value (R205), this processor keeps the key-table lock only where the parameter says so (R190), there is
no VMX non-root operation without VMX (R46) and no transaction without TSX (R342), and the vector and
mask registers hold nothing above MAXVL and MAX_KL (R6). -/
structure Inv (s : State) : Prop where
  memory : Memory.wf s.mem
  addresses : ∀ c ∈ s.mem, c.1 < 2 ^ 64
  keys : KeyTable.wf s.keyTable
  keyids : ∀ e ∈ s.keyTable, 0 < e.1 ∧ e.1 < 2 ^ 16
  bit1 : s.rflags.getLsbD 1 = true
  deadline : ∀ w, s.wait = .waiting w → w.deadline < 2 ^ 64
  lock : s.cfg.pconfigEntropyReleasesLock = true → s.keyLock ≠ .exclusive .self
  vmx : s.cfg.hasVmx = false → s.vmx.nonRoot = false
  tsx : s.cfg.hasTsx = false → s.tsx.active = false
  vectors : ∀ r n, s.cfg.maxvl.bits ≤ n → (s.zmmAt r).getLsbD n = false
  masks : ∀ r n, s.cfg.maxKl ≤ n → (s.kAt r).getLsbD n = false

end Sys2Proof.Machine
end

