-- ==== Sys2Proof/WellFormed.lean ====
section
/-! DEFINITION. Which instruction terms some byte string encodes, in a given mode and CS.D: the
restrictions of R90 to R123 that the types of Syntax.lean do not carry. -/

namespace Sys2Proof

/-- Bytes before the opcode: REX exists in 64-bit mode only, and a REX byte that nothing follows but the
opcode is not an ignored one (R95). -/
def Pfx.wf (m : Mode) (p : Pfx) : Bool :=
  (m = .bits64 || (!p.rex && !p.bytes.contains .deadRex)) &&
  (p.rex || p.bytes.getLast? ≠ some .deadRex)

/-- Displacements of 16-bit addressing (R99). -/
def Disp.wf16 : Disp → Bool
  | .none => true
  | .d8 _ => true
  | .d16 _ => true
  | .d32 _ => false

/-- Displacements of 32- and 64-bit addressing (R99). -/
def Disp.wf32 : Disp → Bool
  | .none => true
  | .d8 _ => true
  | .d16 _ => false
  | .d32 _ => true

/-- A memory operand of the given address size; `ext` says whether register numbers above 7 can be
encoded (R97 to R102, R108). -/
def Mem.wf (a : ASize) (ext : Bool) : Mem → Bool
  | .a16 rm d => a = .a16 && d.wf16 && !(rm = 6 && d = .none)
  | .abs16 _ => a = .a16
  | .rel _ => a ≠ .a16
  | .base b d =>
    a ≠ .a16 && d.wf32 && low3 b ≠ 4 && !(low3 b = 5 && d = .none) && (ext || b.toNat < 8)
  | .sib _ i b d =>
    a ≠ .a16 && d.wf32 && !(low3 b = 5 && d = .none) && (ext || (i.toNat < 8 && b.toNat < 8))
  | .sibAbs _ i _ => a ≠ .a16 && (ext || i.toNat < 8)

/-- A `ModRM:r/m` operand whose register number is below `top`. -/
def Rm.wf (a : ASize) (ext : Bool) (top : Nat) : Rm → Bool
  | .reg r => r.toNat < top
  | .mem m => m.wf a ext

/-- The form of `ModRM:r/m` that a row lists (R106). -/
def RmForm.holds (f : RmForm) (o : Rm) : Bool :=
  match f, o with
  | .any, _ => true
  | .mem, .mem _ => true
  | .reg, .reg _ => true
  | _, _ => false

/-- Whether a form can be encoded in a mode: prefix bytes, register numbers, addressing, and 15 bytes
at most (R90). -/
def Form.wf (m : Mode) (csD : Bool) : Form → Bool
  | .legacy r p reg rm imm =>
    let a := addrSize m csD p
    let n := if p.rex then 16 else 8
    p.wf m && r.mand.ok p && (r.w ≠ some true || p.rex) &&
    reg.toNat < n &&
    (match rm with
      | some o => o.wf a p.rex n
      | none => true) &&
    (r.imm || imm = 0)
  | .vex r _ o imm =>
    let a := addrSize m csD o.pfx
    let n := if m = .bits64 then 16 else 8
    o.pfx.wf m && o.reg.toNat < n && o.vvvv.toNat < n && o.rm.wf a (m = .bits64) n &&
    (r.imm || imm = 0)
  | .evex r _ o imm =>
    let a := addrSize m csD o.pfx
    let n := if m = .bits64 then 32 else 8
    o.pfx.wf m && o.reg.toNat < n && o.vvvv.toNat < n && o.rm.wf a (m = .bits64) n &&
    r.rm.holds o.rm && (r.imm || imm = 0)

/-- Whether some byte string of at most 15 bytes encodes the instruction in mode `m` with CS.D = `csD`. -/
def Instr.wf (m : Mode) (csD : Bool) (i : Instr) : Bool :=
  i.form.wf m csD && i.len ≤ 15

end Sys2Proof
end

