-- ==== Sys2Proof/Certificates/Slice0/Obligations.lean ====
section
/-! DEFINITION. The statements about the machine that are to be proved, one definition each. -/

open Sys2Proof Sys2Proof.Machine

/-! ## Encoding -/

/-- Decoding the bytes of an instruction gives it back, in every mode, with every operand at every value
that the encoding admits, whatever bytes follow (R90 to R128). -/
def Obligations.DecodeOfEncode : Prop :=
  ∀ (m : Mode) (csD : Bool) (i : Instr) (rest : List Byte),
    i.wf m csD = true → decode m csD (encode i ++ rest) = .ok (i, rest)

/-- What is decoded from at most 15 bytes is well formed, and takes as many bytes as its length says, of
which there is at least one (R24, R90). -/
def Obligations.DecodedIsWellFormed : Prop :=
  ∀ (m : Mode) (csD : Bool) (bs rest : List Byte) (i : Instr),
    decode m csD bs = .ok (i, rest) → bs.length ≤ 15 →
      i.wf m csD = true ∧ bs.length = i.len + rest.length ∧ 1 ≤ i.len

/-- Seven words decode in 64-bit mode to the instructions the spec names: four worked encodings of R135,
and one word each of Programs 1 to 3 of 95_test_vectors.md. -/
def Obligations.DecodeWords : Prop :=
  let d := fun bs => decode .bits64 false bs
  let none : Pfx := ⟨[], false⟩
  d [0x0F, 0x1C, 0x07] = .ok (.cldemote none (.base 7 .none), []) ∧
  d [0x66, 0x0F, 0x38, 0xCF, 0xC1] = .ok (.gf2p8mulb ⟨[.osize], false⟩ 0 (.reg 1), []) ∧
  d [0x48, 0x0F, 0x38, 0xF9, 0x0E] = .ok (.movdiri64 ⟨[], true⟩ (.base 6 .none) 1, []) ∧
  d [0xF3, 0x0F, 0x09] = .ok (.wbnoinvd ⟨[.rep], false⟩, []) ∧
  d [0xC4, 0xE2, 0x75, 0xDD, 0xDC] = .ok (.vaesenclastVex256 ⟨none, 3, 1, .reg 4⟩, []) ∧
  d [0x62, 0xF2, 0x7D, 0x89, 0x62, 0x5F, 0x10] =
    .ok (.vpexpandb128m ⟨none, 3, 0, .base 7 (.d8 0x10), 1, true, false⟩, []) ∧
  d [0x62, 0xF3, 0x7D, 0x08, 0x71, 0xF1, 0x04] =
    .ok (.vpshldd128 ⟨none, 6, 0, .reg 1, 0, false, false⟩ 4, [])

/-- The address size, in every mode, with and without CS.D and the prefix 67 (R100). -/
def Obligations.AddressSize : Prop :=
  ∀ (csD : Bool) (p : Pfx),
    addrSize .bits64 csD p = (if Prefix.asize ∈ p.bytes then .a32 else .a64) ∧
    (∀ m, m = .compat ∨ m = .prot →
      addrSize m true p = (if Prefix.asize ∈ p.bytes then .a16 else .a32) ∧
      addrSize m false p = (if Prefix.asize ∈ p.bytes then .a32 else .a16)) ∧
    (∀ m, m = .real ∨ m = .v86 →
      addrSize m csD p = (if Prefix.asize ∈ p.bytes then .a32 else .a16))

/-! ## The step -/

/-- A step runs the decoded instruction: when no wait is in progress and the bytes at RIP decode to a well
formed instruction whose bytes are in the range of RIP and were not stored by the program, the step is
what `exec` does to that instruction after the environment's input and the counting of TSC, but that a
completion with RIP out of range is refused (R24, R86, D4, D6; log 17, log 18). -/
def Obligations.StepRunsDecoded : Prop :=
  ∀ (s t : State) (i : Instr) (rest : List Byte),
    s.beginStep = t → t.wait = .running →
    decode t.mode t.segs.csD t.fetchBytes = .ok (i, rest) →
    t.ripInRange (i.len - 1) = true →
    (∀ n, n < i.len → t.fetchPlace n ∉ t.written) →
    (t.ripInRange i.len = true → Sys2Proof.Machine.step s = exec i t) ∧
    (t.ripInRange i.len = false → ∀ u, exec i t = .next u →
      Sys2Proof.Machine.step s = .refused .ripRange) ∧
    (∀ f, exec i t = .fault f → Sys2Proof.Machine.step s = .fault f) ∧
    (∀ r, exec i t = .refused r → Sys2Proof.Machine.step s = .refused r)

/-- Time (R48, R343): TSC never goes back over a step; before an instruction, where the environment does
nothing, only TSC and the count of free values move, and stores of other agents that raced with the
instruction before are over; over a step of a wait TSC advances unless it is at
its top. That it does not wrap, and that it advances over a wait, are the decision D11 (log 7, log 23). -/
def Obligations.TimeMovesForward : Prop :=
  (∀ s t : State, Sys2Proof.Machine.step s = .next t → s.tsc.toNat ≤ t.tsc.toNat) ∧
  ∀ s : State, s.inputs = [] →
    s.beginStep = { s with tsc := s.beginStep.tsc, racing := [], draws := s.draws + 1 } ∧
    (∀ w, s.wait = .waiting w → s.tsc.toNat + 1 < 2 ^ 64 → s.tsc.toNat < s.beginStep.tsc.toNat)

/-- While a wait is in progress and the environment does nothing, a step either goes on waiting, which
needs the deadline to be ahead, no event pending, no wake-up by a store to the read-set and, for UMWAIT,
the monitor armed by UMONITOR; or completes the instruction; or, with RESET# pending, ends for good.
Once one of those conditions fails, the deadline reached among them, the step completes the instruction:
a wait ends (R203, R204, R206; log 28). -/
def Obligations.StepOfAWait : Prop :=
  ∀ (s : State) (w : Wait), s.inputs = [] → s.wait = .waiting w →
    let t := s.beginStep
    (Event.reset ∈ s.pending → Sys2Proof.Machine.step s = .fault .resetSignal) ∧
    (Event.reset ∉ s.pending → ∃ u, Sys2Proof.Machine.step s = .next u ∧
      ((WaitGoesOn w t u ∧ t.tsc.toNat < w.deadline ∧ s.pending = [] ∧ w.woken = false ∧
          (w.op = .umwait → s.monitor.armed = true ∧ s.monitor.setBy = .umonitor)) ∨
        WaitEnds w.deadline w.usingOs w.len t u) ∧
      (w.deadline ≤ t.tsc.toNat ∨ s.pending ≠ [] ∨ w.woken = true ∨
          (w.op = .umwait ∧ (s.monitor.armed = false ∨ s.monitor.setBy ≠ .umonitor)) →
        WaitEnds w.deadline w.usingOs w.len t u))

/-! ## Reset, the invariant, and rules of the whole machine -/

/-- What the spec gives for reset (R50, R51, R57): the key-table lock is free, every KeyID has the TME key,
no wait is in progress, TME is neither locked nor enabled, no VMX non-root operation, no transaction;
and the monitor is not armed, by decision D13. -/
def Obligations.ResetState : Prop :=
  State.reset.keyLock = .unlocked ∧
  (∀ id, (State.reset.keyAt id).mode = .tmeKey) ∧
  State.reset.wait = .running ∧ State.reset.monitor.armed = false ∧
  State.reset.msr.tmeLock = false ∧ State.reset.msr.tmeEnable = false ∧
  State.reset.vmx.nonRoot = false ∧ State.reset.tsx.active = false

/-- The invariant holds after reset. That RFLAGS bit 1 is 1 and that nothing is listed in memory and in the key
table are the model's reset values (log 3, log 5, log 29), and so are the widths of the vector and mask
registers (log 6). -/
def Obligations.ResetKeepsInvariant : Prop := Inv State.reset

/-- Every step keeps the invariant: memory and key table canonical and inside their index ranges, KeyID 0
never programmed, RFLAGS bit 1 set, deadlines 64-bit values, the lock kept by this processor only where
the parameter says so, no VMX non-root operation without VMX and no transaction without TSX (R46, R342),
nothing in the vector and mask registers above MAXVL and MAX_KL (R6). The sparse lists and that no other
agent programs KeyID 0 are the model's choice (log 5, log 21, log 29). -/
def Obligations.StepKeepsInvariant : Prop :=
  ∀ s t : State, Inv s → Sys2Proof.Machine.step s = .next t → Inv t

/-- No step changes the configuration, a segment or control register, an MSR, VMX or TSX state, or the
page rules; so mode and privilege level stay (R30, R31, R337, R338). -/
def Obligations.ModeAndPrivilegeStay : Prop :=
  ∀ s t : State, Sys2Proof.Machine.step s = .next t →
    t.cfg = s.cfg ∧ t.segs = s.segs ∧ t.ctl = s.ctl ∧ t.msr = s.msr ∧ t.vmx = s.vmx ∧
    t.tsx = s.tsx ∧ t.pages = s.pages ∧ t.mode = s.mode ∧ t.cpl = s.cpl

/-- An instruction that answers a next state has moved RIP past its bytes, or is TPAUSE or UMWAIT and has
begun to wait with RIP where it was (R13, R24, R203, R204). -/
def Obligations.RipMovesPastInstruction : Prop :=
  ∀ (i : Instr) (s t : State), s.wait = .running → exec i s = .next t →
    (t.wait = .running ∧ t.rip = s.rip + BitVec.ofNat 64 i.len) ∨
    ((∃ p rm, i = .tpause p rm ∨ i = .umwait p rm) ∧ (∃ w, t.wait = .waiting w) ∧ t.rip = s.rip)

/-- Which instructions change what. PCONFIG alone writes a general register, and only RAX; PCONFIG, TPAUSE
and UMWAIT alone write RFLAGS, and only the six status flags (R26, R186); MOVDIRI, MOVDIR64B and
VPCOMPRESS to memory alone change a byte of memory (R86); no instruction changes what `SameFixed`
lists. -/
def Obligations.WhoChangesWhat : Prop :=
  ∀ (i : Instr) (s t : State), exec i s = .next t →
    (∀ r, t.gprAt r = s.gprAt r ∨ (r = 0 ∧ ∃ p, i = .pconfig p)) ∧
    (∀ n, statusMask.getLsbD n = false → t.rflags.getLsbD n = s.rflags.getLsbD n) ∧
    (t.rflags = s.rflags ∨ (∃ p, i = .pconfig p) ∨ ∃ p rm, i = .tpause p rm ∨ i = .umwait p rm) ∧
    ((∀ a, t.byteAt a = s.byteAt a) ∨
      (∃ p m r, i = .movdiri32 p m r ∨ i = .movdiri64 p m r ∨ i = .movdir64b p r m) ∨
      (∃ (e : POp) (vl : VL) (o : EvexOps Mem),
        (e = .vpcompressb ∨ e = .vpcompressw) ∧ i = e.makeMem vl o)) ∧
    SameFixed s t

/-- Where no instruction runs. A byte string that is no row is refused (R131, D9): one that begins, after the
bytes of R91, with another byte than 0F, C4 or 62; a VEX or EVEX string that opens no row. One that 15
bytes do not hold is #GP(0) (R90). Reserved bits of P0 and P1 (R116), and `L'L` = 11 on a row (R118), are
#UD, in 64-bit mode whatever the bits of R119 are. Bytes that the program stored are not executed, whether
they are an instruction or not, but refused, and so are bytes out of the range of RIP (R24, R86, D4, D6);
the number of bytes of a reserved string is the model's reading (log 30). -/
def Obligations.DecodeStops : Prop :=
  (∀ s t : State, s.beginStep = t → t.wait = .running →
    let d := decode t.mode t.segs.csD t.fetchBytes
    let guarded := fun (n : Nat) (o : Host.Outcome State Fault Refusal) =>
      (t.ripInRange (n - 1) = false → Sys2Proof.Machine.step s = .refused .ripRange) ∧
      (t.ripInRange (n - 1) = true → (∃ k, k < n ∧ t.fetchPlace k ∈ t.written) →
        Sys2Proof.Machine.step s = .refused .selfModified) ∧
      (t.ripInRange (n - 1) = true → (∀ k, k < n → t.fetchPlace k ∉ t.written) →
        Sys2Proof.Machine.step s = o)
    (d = .error .outside → Sys2Proof.Machine.step s = .refused .outsideSource) ∧
    (d = .error .evexExt → Sys2Proof.Machine.step s = .refused .evexExtension) ∧
    (d = .error .short → guarded 15 (.fault (.exception .gp t.code0 none))) ∧
    (∀ left, d = .error (.ud left) → guarded (15 - left) (.fault (.exception .ud none none))) ∧
    (∀ i rest, d = .ok (i, rest) →
      (t.ripInRange (i.len - 1) = false → Sys2Proof.Machine.step s = .refused .ripRange) ∧
      (t.ripInRange (i.len - 1) = true → (∃ k, k < i.len ∧ t.fetchPlace k ∈ t.written) →
        Sys2Proof.Machine.step s = .refused .selfModified))) ∧
  (∀ (m : Mode) (csD : Bool) (p0 p1 p2 op : Byte) (u : List Byte) (ps : List Prefix)
      (rex : Option (BitVec 4)) (bs : List Byte),
    (∀ b, scanBytes m none bs = (ps, rex, b :: u) → b ≠ 0x0F → b ≠ 0xC4 → b ≠ 0x62 →
      decode m csD bs = .error .outside) ∧
    (scanBytes m none bs = (ps, rex, []) → decode m csD bs = .error .short) ∧
    (scanBytes m none bs = (ps, rex, 0xC4 :: p0 :: p1 :: op :: u) →
      (∀ v ∈ VOp.all, v.row.suits p0 p1 op = false) → decode m csD bs = .error .outside) ∧
    (scanBytes m none bs = (ps, rex, 0x62 :: p0 :: p1 :: p2 :: op :: u) →
      (p0.extractLsb' 2 2 = 0 → p1.getLsbD 2 = true →
        (∀ e ∈ EvexSel.all, e.row.opens p0 p1 op = false) → decode m csD bs = .error .outside) ∧
      (m = .bits64 ∨ p0.extractLsb' 6 2 = 3 → 8 ≤ u.length →
        (p0.extractLsb' 2 2 ≠ 0 ∨ p1.getLsbD 2 = false →
          ∃ left, left ≤ u.length ∧ decode m csD bs = .error (.ud left)) ∧
        (∀ e ∈ EvexSel.all, p0.extractLsb' 2 2 = 0 → p1.getLsbD 2 = true →
          e.row.suits p0 p1 op (u.headD 0) = true → p2.extractLsb' 5 2 = 3 →
          ∃ left, left ≤ u.length ∧ decode m csD bs = .error (.ud left))))) ∧
  (∀ (m : Mode) (csD : Bool) (i : Instr) (n : Nat), i.form.wf m csD = true → n < i.len →
    decode m csD ((encode i).take n) = .error .short)

/-- An F0 prefix on any instruction in scope raises #UD, in every mode (R92). -/
def Obligations.LockIsUndefined : Prop :=
  ∀ (i : Instr) (s : State), Prefix.lock ∈ i.form.pfx.bytes →
    exec i s = .fault (.exception .ud none none)

/-- What a fault carries and what it records (R311, R313, R316, R331, R340, R342): the address and the code
of a page fault, no code for #UD and #NM, code 0 for the others and in real-address mode none, where there
is no #PF and no #AC either (R69, R74). A stop leaves the state as it was before the instruction, RIP
included, but that a page fault puts its address in CR2, and PCONFIG's VM exit its reason in
VMCS.EXIT_REASON. The number of that reason is the spec's note from general knowledge (log 4), and that
the exit changes nothing else its note too; a stopped step answers no state, so that `recordStop` is that
state is the model's form (log 13). No rule gives the state that RESET# leaves: that it is recorded as the
state before is the model's choice (log 28). -/
def Obligations.StopRecords : Prop :=
  (Exc.ud.vector = 6 ∧ Exc.nm.vector = 7 ∧ Exc.ss.vector = 12 ∧ Exc.gp.vector = 13 ∧
    Exc.pf.vector = 14 ∧ Exc.ac.vector = 17) ∧
  ∀ (i : Instr) (s : State) (f : Fault), exec i s = .fault f →
    (∀ c a, f = .exception .pf c a → c.isSome = true ∧ ∃ x, a = some x ∧
      s.recordStop f = { s with ctl := { s.ctl with cr2 := x } }) ∧
    (∀ e c a, f = .exception e c a → e ≠ .pf →
      a = none ∧ c = (if e = .ud ∨ e = .nm ∨ s.mode = .real then none else some 0) ∧
      s.recordStop f = s) ∧
    (∀ e c a, f = .exception e c a → s.mode = .real → e ≠ .pf ∧ e ≠ .ac) ∧
    (∀ r, f = .vmExit r → (∃ p, i = .pconfig p) ∧ s.inGuest = true ∧
      s.recordStop f = { s with vmx := { s.vmx with exitReason := 65 } }) ∧
    (f = .txAbort → s.inTx = true ∧
      ((∃ p rm, i = .umonitor p rm ∨ i = .umwait p rm) ∨ ∃ p m, i = .cldemote p m) ∧
      s.recordStop f = s) ∧
    (f = .resetSignal → Event.reset ∈ s.pending ∧ (∃ p rm, i = .tpause p rm ∨ i = .umwait p rm) ∧
      s.recordStop f = s)

/-- Software at CPL above 0 changes neither the key table nor its lock: where the environment does
nothing, a step there leaves both as they are (R180, R337). -/
def Obligations.UserKeepsKeys : Prop :=
  ∀ s t : State, s.cpl ≠ 0 → s.inputs = [] → Sys2Proof.Machine.step s = .next t →
    t.keyTable = s.keyTable ∧ t.keyLock = s.keyLock

/-! ## Memory and addresses -/

/-- Byte order is little-endian (R62). Bit `8 i + k` of what is loaded is bit `k` of the byte found at `la + i`,
which is what memory holds at its place, or a value that another agent's store replaced during the
instruction (R71; log 21). A store puts bits `8 i + 7 : 8 i` at the place of `la + i` and leaves every
other place; what is stored is what is loaded. Places are the `pa` of R74 (log 15): without a page rule
an address is its own. -/
def Obligations.LittleEndian : Prop :=
  ∀ (s : State) (la : Word) (n w : Nat) (v : BitVec w), Memory.wf s.mem →
    (∀ i k, i < n → k < 8 → 8 * i + k < w →
      (s.load la n w).getLsbD (8 * i + k) = (s.readAt (s.byteAddr la i)).getLsbD k) ∧
    (∀ a, s.readAt a = s.byteAt (s.place .read a) ∨ (s.place .read a, s.readAt a) ∈ s.racing) ∧
    Stored s (s.store la (toBytes n v)) la n (fun i => v.extractLsb' (8 * i) 8) ∧
    (∀ a, a ∉ s.places .write la n → (s.store la (toBytes n v)).byteAt a = s.byteAt a) ∧
    (s.pages = [] → s.racing = [] → n ≤ 2 ^ 32 → w = 8 * n →
      (s.store la (toBytes n v)).load la n w = v) ∧
    (s.pages = [] → ∀ acc a, s.translate acc a = .ok a .wb)

/-- The linear address of an operand of `n` bytes, and the exception where it is illegal, by mode (R66): #SS
for SS and #GP for the others, in real-address and virtual-8086 mode #GP for all. That the bytes of an
operand in 64-bit mode follow each other modulo 2^64 is the model's choice (log 26). -/
def Obligations.SegmentedAddress : Prop :=
  ∀ (s : State) (g : SegReg) (ea : Word) (n : Nat) (acc : Access), 1 ≤ n →
    let bad : Stop := .fault (.exception (if g = .ss then .ss else .gp) (some 0) none)
    (s.mode = .bits64 →
      let la := if g = .fs then s.segs.fs.base + ea else if g = .gs then s.segs.gs.base + ea else ea
      s.checkSegment g ea n acc =
        if canonical s.cfg.laBits la ∧ canonical s.cfg.laBits (la + BitVec.ofNat 64 (n - 1)) then
          .ok la
        else .error bad) ∧
    (s.mode = .prot ∨ s.mode = .compat →
      s.checkSegment g ea n acc =
        if (s.seg g).null = false ∧ (s.seg g).lo.toNat ≤ ea.toNat ∧
            ea.toNat + (n - 1) ≤ (s.seg g).hi.toNat ∧
            (acc = .read → (s.seg g).readable = true) ∧ (acc = .write → (s.seg g).writable = true)
        then .ok (BitVec.ofNat 64 (((s.seg g).base + ea).toNat % 2 ^ 32))
        else .error bad) ∧
    (s.mode = .real ∨ s.mode = .v86 →
      s.checkSegment g ea n acc =
        if ea.toNat + n ≤ 0x10000 then .ok (((s.seg g).sel.setWidth 64 <<< 4) + ea)
        else .error (.fault (.exception .gp (if s.mode = .real then none else some 0) none)))

/-- Effective addresses and their segments (R67, R93, R101 to R103). With 64- and 32-bit addressing: base,
index times scale, displacement, truncated; no index for number 4; the RIP-relative form from the end of
the instruction in 64-bit mode, and its displacement alone in the other modes. With 16-bit addressing
the table of R102. An 8-bit displacement is scaled (R122). The stack segment for a base 4 or 5, and for
BP; an override names another, in 64-bit mode FS and GS only. -/
def Obligations.EffectiveAddress : Prop :=
  ∀ (s : State) (next : Word) (n : Nat) (b i : BitVec 4) (sc : BitVec 2) (v : BitVec 32)
      (u : BitVec 16) (d8 : BitVec 8) (d : Disp) (p : Pfx) (len : Nat) (m : Mem),
    let low := fun (k : Nat) (x : Word) => BitVec.ofNat 64 (x.toNat % 2 ^ k)
    let idx := if i = 4 then 0 else s.gprAt i * BitVec.ofNat 64 (2 ^ sc.toNat)
    let dv := Disp.value n d
    let bx := s.gprAt 3
    let bp := s.gprAt 5
    let si := s.gprAt 6
    let di := s.gprAt 7
    let ea16 := fun (rm : BitVec 3) => s.effAddr .a16 next n (.a16 rm d)
    (Disp.value n .none = 0 ∧ Disp.value n (.d8 d8) = d8.signExtend 64 * BitVec.ofNat 64 n ∧
      Disp.value n (.d16 u) = u.signExtend 64 ∧ Disp.value n (.d32 v) = v.signExtend 64) ∧
    (∀ a k, a = .a64 ∧ k = 64 ∨ a = .a32 ∧ k = 32 →
      s.effAddr a next n (.base b d) = low k (s.gprAt b + dv) ∧
      s.effAddr a next n (.sib sc i b d) = low k (s.gprAt b + idx + dv) ∧
      s.effAddr a next n (.sibAbs sc i v) = low k (idx + v.signExtend 64) ∧
      s.effAddr a next n (.rel v) =
        low k (if s.mode = .bits64 then next + v.signExtend 64 else v.signExtend 64)) ∧
    (ea16 0 = low 16 (bx + si + dv) ∧ ea16 1 = low 16 (bx + di + dv) ∧
      ea16 2 = low 16 (bp + si + dv) ∧ ea16 3 = low 16 (bp + di + dv) ∧
      ea16 4 = low 16 (si + dv) ∧ ea16 5 = low 16 (di + dv) ∧ ea16 6 = low 16 (bp + dv) ∧
      ea16 7 = low 16 (bx + dv) ∧ s.effAddr .a16 next n (.abs16 u) = u.setWidth 64) ∧
    (defaultSeg (.base b d) = (if b = 4 ∨ b = 5 then .ss else .ds) ∧
      defaultSeg (.sib sc i b d) = (if b = 4 ∨ b = 5 then .ss else .ds) ∧
      defaultSeg (.sibAbs sc i v) = .ds ∧ defaultSeg (.rel v) = .ds ∧ defaultSeg (.abs16 u) = .ds ∧
      ∀ rm, defaultSeg (.a16 rm d) = (if rm = 2 ∨ rm = 3 ∨ rm = 6 then .ss else .ds)) ∧
    (p.override = none → s.segOf p m = defaultSeg m) ∧
    (∀ r, p.override = some r →
      s.segOf p m = if s.mode = .bits64 ∧ r ≠ .fs ∧ r ≠ .gs then defaultSeg m else r) ∧
    s.operandAddr p len n m =
      s.effAddr (addrSize s.mode s.segs.csD p) (s.rip + BitVec.ofNat 64 len) n m

/-! ## What every vector instruction has in common -/

/-- The first checks of VEX and EVEX forms: #UD where any #UD condition holds, whatever CR0.TS, the masks
and memory; else #NM where CR0.TS is 1 (R318 to R322). That an EVEX form is #UD where MAXVL and MAX_KL are
not 512 and 64, and a VEX form where its operands are wider than MAXVL, is the model's reading (log 6). -/
def Obligations.VectorFirstChecks : Prop :=
  ∀ (i : Instr) (imm : Byte) (s : State),
    (∀ r vl o, i.form = .evex r vl o imm →
      (¬ s.EvexLegal r vl o → exec i s = .fault (.exception .ud none none)) ∧
      (s.EvexLegal r vl o → s.taskSwitched = true → exec i s = .fault (.exception .nm none none))) ∧
    (∀ r l o, i.form = .vex r l o imm →
      (¬ s.VexLegal r (vexLength l) o → exec i s = .fault (.exception .ud none none)) ∧
      (s.VexLegal r (vexLength l) o → s.taskSwitched = true →
        exec i s = .fault (.exception .nm none none)))

/-- The checks of a legacy-SSE form: #UD without CR4.OSFXSR, with CR0.EM, without GFNI; #NM with CR0.TS;
and #GP for a memory operand that may be accessed but is not 16-byte aligned (R68, R318, R319). That the
linear address is tested and not the offset is the model's choice (log 37). -/
def Obligations.SseChecks : Prop :=
  ∀ (i : Instr) (p : Pfx) (reg : BitVec 4) (rm : Rm) (imm : Byte) (s : State),
    i = .gf2p8affineinvqb p reg rm imm ∨ i = .gf2p8affineqb p reg rm imm ∨ i = .gf2p8mulb p reg rm →
    (s.hasAll [.gfni] = false ∨ s.ctl.cr0.getLsbD 2 = true ∨ s.ctl.cr4.getLsbD 9 = false →
      exec i s = .fault (.exception .ud none none)) ∧
    (p.has .lock = false → s.hasAll [.gfni] = true → s.sseEnabled = true → s.taskSwitched = true →
      exec i s = .fault (.exception .nm none none)) ∧
    (∀ m, s.SseReady p → rm = .mem m →
      s.segOk (s.segOf p m) (s.operandAddr p i.len 1 m) 16 .read = true →
      (s.linear (s.segOf p m) (s.operandAddr p i.len 1 m)).toNat % 16 ≠ 0 →
      ∃ c, exec i s = .fault (.exception .gp c none) ∧ (c = some 0 ∨ s.mode = .real))

/-- The source operand of a vector form (R63, R68, R121): a register; or memory, byte `j` of the operand
found at address `la + j`, for legacy-SSE forms where it is 16-byte aligned (log 37), for VEX and EVEX
forms wherever it is; with broadcast one element at every position. -/
def Obligations.VectorSource : Prop :=
  ∀ (s : State) (p : Pfx) (len : Nat) (r : EvexRow) (vl : VL) (o : EvexOps Rm),
    (∀ g, s.sseSource p len (.reg g) = .ok (s.zmmAt g)) ∧
    (∀ n g, s.vexSource p len n (.reg g) = .ok (s.zmmAt g)) ∧
    (∀ g, o.rm = .reg g → s.evexSource r vl o = .ok (s.zmmAt g)) ∧
    (∀ m la, s.segOk (s.segOf p m) (s.operandAddr p len 1 m) 16 .read = true →
      s.linear (s.segOf p m) (s.operandAddr p len 1 m) = la → la.toNat % 16 = 0 →
      s.pageFault .read (s.span la 16) = none →
      ∃ v, s.sseSource p len (.mem m) = .ok v ∧ ∀ j, j < 16 → elem 8 v j = s.readAt (s.byteAddr la j)) ∧
    (∀ m la n, s.segOk (s.segOf p m) (s.operandAddr p len 1 m) n .read = true →
      s.linear (s.segOf p m) (s.operandAddr p len 1 m) = la → n ≤ 64 →
      s.pageFault .read (s.span la n) = none →
      ∃ v, s.vexSource p len n (.mem m) = .ok v ∧
        ∀ j, j < n → elem 8 v j = s.readAt (s.byteAddr la j)) ∧
    (∀ m la, o.rm = .mem m → o.b = false → (o.aaa = 0 ∨ s.suppresses r = false) →
      s.segOk (s.segOf o.pfx m) (s.evexAddr r vl o m) (vlBytes vl) .read = true →
      s.linear (s.segOf o.pfx m) (s.evexAddr r vl o m) = la →
      s.pageFault .read (s.span la (vlBytes vl)) = none →
      ∃ v, s.evexSource r vl o = .ok v ∧
        ∀ j, j < vlBytes vl → elem 8 v j = s.readAt (s.byteAddr la j)) ∧
    (∀ m la, o.rm = .mem m → o.b = true → (r.bcst = 4 ∨ r.bcst = 8) →
      s.segOk (s.segOf o.pfx m) (s.evexAddr r vl o m) r.bcst .read = true →
      s.linear (s.segOf o.pfx m) (s.evexAddr r vl o m) = la →
      s.pageFault .read (s.span la r.bcst) = none →
      ∃ v, s.evexSource r vl o = .ok v ∧
        ∀ j, j < vlBytes vl → elem 8 v j = s.readAt (s.byteAddr la (j % r.bcst)))

/-- Fault suppression (R320 to R322). On a row that has it, with a writemask and no broadcast, only the
active elements are checked, and each is read from its own bytes; with broadcast and no active element
nothing is checked. Whether GF2P8MULB has it is a parameter (R6). -/
def Obligations.FaultSuppression : Prop :=
  ∀ (s : State) (e : EOp) (vl : VL) (o : EvexOps Rm) (m : Mem) (la : Word),
    let g := s.segOf o.pfx m
    let ea := s.evexAddr e.row vl o m
    let n := vlBytes vl / e.row.elem
    let sz := e.row.elem
    o.rm = .mem m → s.linear g ea = la → s.suppresses e.row = true → o.aaa ≠ 0 →
    (o.b = false →
      (∀ j, j < n → (s.kAt o.aaa).getLsbD j = true →
        s.PiecePasses g (ea + BitVec.ofNat 64 (j * sz)) sz .read) →
      ∃ v, s.evexSource e.row vl o = .ok v ∧
        ∀ j b, j < n → b < sz → (s.kAt o.aaa).getLsbD j = true →
          elem 8 v (j * sz + b) = s.readAt (s.byteAddr la (j * sz + b))) ∧
    (o.b = true → (∀ j, j < n → (s.kAt o.aaa).getLsbD j = false) →
      ∃ v, s.evexSource e.row vl o = .ok v)

/-- Memory faults of the vector forms, past their first checks (R66, R74, R161, R254, R258, R319 to R322):
legacy-SSE, all 16 bytes; VEX, the whole operand; EVEX, the whole operand where the row has no fault
suppression (all of class E4NF, and GF2P8MULB with its parameter false) or there is no writemask; the one
element of a broadcast, unless suppressed with none active; else the active elements; VPCOMPRESS and
VPEXPAND, the bytes of the active elements, packed. Which of several faults is raised, the lowest, is the
model's choice (log 20). -/
def Obligations.VectorMemoryFaults : Prop :=
  ∀ (i : Instr) (s : State) (m : Mem) (imm : Byte) (f : Fault),
    (∀ p reg, i = .gf2p8affineinvqb p reg (.mem m) imm ∨ i = .gf2p8affineqb p reg (.mem m) imm ∨
        i = .gf2p8mulb p reg (.mem m) → s.SseReady p →
      (s.segOk (s.segOf p m) (s.operandAddr p i.len 1 m) 16 .read = true →
        (s.linear (s.segOf p m) (s.operandAddr p i.len 1 m)).toNat % 16 = 0) →
      s.PieceFaults (s.segOf p m) (s.operandAddr p i.len 1 m) 16 .read f → exec i s = .fault f) ∧
    (∀ r l o, i.form = .vex r l o imm → o.rm = .mem m → s.VexReady r (vexLength l) o →
      s.PieceFaults (s.segOf o.pfx m) (s.operandAddr o.pfx i.len 1 m) (vlBytes (vexLength l)) .read f →
      exec i s = .fault f) ∧
    (∀ (e : EOp) vl o, i = e.make vl o imm → o.rm = .mem m → s.EvexReady e.row vl o →
      let g := s.segOf o.pfx m
      let ea := s.evexAddr e.row vl o m
      let sz := e.row.elem
      let n := vlBytes vl / sz
      (o.b = false → o.aaa = 0 ∨ s.suppresses e.row = false →
        s.PieceFaults g ea (vlBytes vl) .read f → exec i s = .fault f) ∧
      (o.b = true → s.suppresses e.row = false ∨ (∃ j, j < n ∧ s.active o.aaa j = true) →
        s.PieceFaults g ea e.row.bcst .read f → exec i s = .fault f) ∧
      (∀ j, o.b = false → s.suppresses e.row = true → o.aaa ≠ 0 → j < n →
        s.active o.aaa j = true → s.PieceFaults g (ea + BitVec.ofNat 64 (j * sz)) sz .read f →
        (∀ k, k < j → s.active o.aaa k = true →
          s.PiecePasses g (ea + BitVec.ofNat 64 (k * sz)) sz .read) →
        exec i s = .fault f)) ∧
    (∀ (e : POp) vl o, i = e.makeMem vl o → s.EvexReady e.memRow vl o.anyMem →
      let sz := e.memRow.elem
      let bytes := ((List.range (vlBytes vl / sz)).filter (s.active o.aaa)).length * sz
      bytes ≠ 0 →
      s.PieceFaults (s.segOf o.pfx o.rm) (s.evexAddr e.memRow vl o.anyMem o.rm) bytes
        (if e = .vpcompressb ∨ e = .vpcompressw then .write else .read) f →
      exec i s = .fault f)

/-! ## GFNI -/

/-- `affine_byte` (R151): result bit `i` is the XOR, over the bits `k` of byte `7 - i` of the matrix and of
`x`, of their products, XOR bit `i` of the immediate; and the identity matrix is 0102040810204080H. -/
def Obligations.AffineByte : Prop :=
  (∀ (a : Word) (x imm : Byte) (i : Nat), i < 8 →
    (affineByte a x imm).getLsbD i =
      ((List.range 8).foldl (fun acc k => acc ^^ (a.getLsbD (8 * (7 - i) + k) && x.getLsbD k)) false ^^
        imm.getLsbD i)) ∧
  (∀ x : Byte, affineByte 0x0102040810204080 x 0 = x)

/-- The field GF(2^8) modulo 11BH. The inverse of R152: 0 for 0, and for every other byte the one byte whose
product with it is 1; it is an involution, and the inverse of 95H is 8AH. The product of R162:
commutative, distributive over XOR, with unit 1, and a product with 2 is a shift reduced by 11BH. -/
def Obligations.FieldInverseAndProduct : Prop :=
  (gfInverse 0 = 0 ∧ gfInverse 0x95 = 0x8A ∧
    (∀ x : Byte, x ≠ 0 → gf2p8MulByte x (gfInverse x) = 1) ∧
    (∀ x : Byte, gfInverse (gfInverse x) = x) ∧
    (∀ x : Byte, affineInverseByte 0x0102040810204080 x 0 = gfInverse x)) ∧
  ∀ a b c : Byte,
    gf2p8MulByte a b = gf2p8MulByte b a ∧
    gf2p8MulByte a (b ^^^ c) = gf2p8MulByte a b ^^^ gf2p8MulByte a c ∧
    gf2p8MulByte a 1 = a ∧
    gf2p8MulByte a 2 = (a <<< 1) ^^^ (if a.getLsbD 7 then 0x1B else 0)

/-- The legacy-SSE forms of GF2P8AFFINEINVQB, GF2P8AFFINEQB and GF2P8MULB complete with the bytes of R153,
R156 and R159, the bits above 127 kept. -/
def Obligations.GfniSse : Prop :=
  ∀ (p : Pfx) (reg : BitVec 4) (rm : Rm) (imm : Byte),
    SseCompletes (.gf2p8affineinvqb p reg rm imm) p reg rm
      (fun x m j => affineInverseByte (elem 64 m (j / 8)) (elem 8 x j) imm) ∧
    SseCompletes (.gf2p8affineqb p reg rm imm) p reg rm
      (fun x m j => affineByte (elem 64 m (j / 8)) (elem 8 x j) imm) ∧
    SseCompletes (.gf2p8mulb p reg rm) p reg rm
      (fun x y j => gf2p8MulByte (elem 8 x j) (elem 8 y j))

/-- The VEX forms of the three GFNI instructions, 128 and 256 bits, complete with the bytes of R154, R157
and R160, the bits above the vector length 0. -/
def Obligations.GfniVex : Prop :=
  ∀ (o : VexOps) (imm : Byte),
    let inv : Vec → Vec → Nat → Byte :=
      fun x m j => affineInverseByte (elem 64 m (j / 8)) (elem 8 x j) imm
    let aff : Vec → Vec → Nat → Byte :=
      fun x m j => affineByte (elem 64 m (j / 8)) (elem 8 x j) imm
    let mul : Vec → Vec → Nat → Byte := fun x y j => gf2p8MulByte (elem 8 x j) (elem 8 y j)
    VexCompletes (.vgf2p8affineinvqbVex128 o imm) VOp.vgf2p8affineinvqb.row .v128 o 8 inv ∧
    VexCompletes (.vgf2p8affineinvqbVex256 o imm) VOp.vgf2p8affineinvqb.row .v256 o 8 inv ∧
    VexCompletes (.vgf2p8affineqbVex128 o imm) VOp.vgf2p8affineqb.row .v128 o 8 aff ∧
    VexCompletes (.vgf2p8affineqbVex256 o imm) VOp.vgf2p8affineqb.row .v256 o 8 aff ∧
    VexCompletes (.vgf2p8mulbVex128 o) VOp.vgf2p8mulb.row .v128 o 8 mul ∧
    VexCompletes (.vgf2p8mulbVex256 o) VOp.vgf2p8mulb.row .v256 o 8 mul

/-- The EVEX forms of the three GFNI instructions, 128, 256 and 512 bits, complete with the bytes of R155,
R158 and R161 under a byte writemask (`vgf2p8affineinvqbEvex128` to `vgf2p8mulbEvex512`). -/
def Obligations.GfniEvex : Prop :=
  ∀ (vl : VL) (o : EvexOps Rm) (imm : Byte),
    EvexCompletes (EOp.vgf2p8affineinvqb.make vl o imm) EOp.vgf2p8affineinvqb.row vl o 8
      (fun _ x m j => affineInverseByte (elem 64 m (j / 8)) (elem 8 x j) imm) ∧
    EvexCompletes (EOp.vgf2p8affineqb.make vl o imm) EOp.vgf2p8affineqb.row vl o 8
      (fun _ x m j => affineByte (elem 64 m (j / 8)) (elem 8 x j) imm) ∧
    EvexCompletes (EOp.vgf2p8mulb.make vl o imm) EOp.vgf2p8mulb.row vl o 8
      (fun _ x y j => gf2p8MulByte (elem 8 x j) (elem 8 y j))

/-! ## VAES and VPCLMULQDQ -/

/-- One round of encryption by bytes (R222, R223, R226, R227, R229): byte `r` of column `c`. -/
def Obligations.EncryptionRound : Prop :=
  ∀ (st key : BitVec 128) (r c : Nat), r < 4 → c < 4 →
    let sub := fun i => affineInverseByte 0xF1E3C78F1F3E7CF8
      (laneByte st ((r + i) % 4 + 4 * ((c + (r + i) % 4) % 4))) 0x63
    laneByte (aesEnc st key) (r + 4 * c) =
      gf2p8MulByte 2 (sub 0) ^^^ gf2p8MulByte 3 (sub 1) ^^^ sub 2 ^^^ sub 3 ^^^
        laneByte key (r + 4 * c) ∧
    laneByte (aesEncLast st key) (r + 4 * c) = sub 0 ^^^ laneByte key (r + 4 * c)

/-- Decryption undoes encryption (R222, R223, R224, R225, R229): InvMixColumns after MixColumns,
VAESDECLAST after VAESENCLAST with the zero key, and a VAESDEC round, with the round key carried
through InvMixColumns, as the equivalent inverse cipher has it. -/
def Obligations.DecryptionInverts : Prop :=
  ∀ st key : BitVec 128,
    invMixColumns (mixColumns st) = st ∧
    aesDecLast (aesEncLast st 0) 0 = st ∧
    invShiftRows (shiftRows st) = st ∧
    aesDec (aesEncLast st 0) key = invMixColumns st ^^^ key

/-- `PCLMUL128` (R236): bit `i` is the XOR over `j + k = i` of `X[j] AND Y[k]`; bit 127 is 0; and its
values for 1, 2 and the two named operands. -/
def Obligations.CarrylessProduct : Prop :=
  (∀ (x y : Word) (i : Nat), i < 128 →
    (clmul x y).getLsbD i =
      (List.range (i + 1)).foldl
        (fun acc j => acc ^^ (x.getLsbD j && y.getLsbD (i - j))) false) ∧
  (∀ x y : Word, (clmul x y).getLsbD 127 = false) ∧
  (∀ x : Word, clmul x 1 = x.setWidth 128 ∧ clmul x 2 = x.setWidth 128 <<< 1) ∧
  clmul 0xFFFFFFFFFFFFFFFF 0xFFFFFFFFFFFFFFFF = 0x55555555555555555555555555555555 ∧
  clmul 0x8000000000000000 0x8000000000000000 = 1 <<< 126

/-- The VEX forms of VAES and VPCLMULQDQ, 256 bits, complete lane by lane (R220, R224 to R227, R235). -/
def Obligations.VaesClmulVex : Prop :=
  ∀ (o : VexOps) (imm : Byte),
    let lanes := fun (f : BitVec 128 → BitVec 128 → BitVec 128) (x y : Vec) (j : Nat) =>
      f (elem 128 x j) (elem 128 y j)
    VexCompletes (.vaesdecVex256 o) VOp.vaesdec.row .v256 o 128 (lanes aesDec) ∧
    VexCompletes (.vaesdeclastVex256 o) VOp.vaesdeclast.row .v256 o 128 (lanes aesDecLast) ∧
    VexCompletes (.vaesencVex256 o) VOp.vaesenc.row .v256 o 128 (lanes aesEnc) ∧
    VexCompletes (.vaesenclastVex256 o) VOp.vaesenclast.row .v256 o 128 (lanes aesEncLast) ∧
    VexCompletes (.vpclmulqdqVex256 o imm) VOp.vpclmulqdq.row .v256 o 128
      (fun x y j => clmul (elem 64 x (if imm.getLsbD 0 then 2 * j + 1 else 2 * j))
        (elem 64 y (if imm.getLsbD 4 then 2 * j + 1 else 2 * j)))

/-- The EVEX forms of VAES and VPCLMULQDQ, 128, 256 and 512 bits, complete lane by lane
(`vaesdecEvex128` to `vpclmulqdqEvex512`; R220, R221, R224 to R227, R235). -/
def Obligations.VaesClmulEvex : Prop :=
  ∀ (vl : VL) (o : EvexOps Rm) (imm : Byte),
    let lanes := fun (f : BitVec 128 → BitVec 128 → BitVec 128) (_ x y : Vec) (j : Nat) =>
      f (elem 128 x j) (elem 128 y j)
    EvexCompletes (EOp.vaesdec.make vl o imm) EOp.vaesdec.row vl o 128 (lanes aesDec) ∧
    EvexCompletes (EOp.vaesdeclast.make vl o imm) EOp.vaesdeclast.row vl o 128 (lanes aesDecLast) ∧
    EvexCompletes (EOp.vaesenc.make vl o imm) EOp.vaesenc.row vl o 128 (lanes aesEnc) ∧
    EvexCompletes (EOp.vaesenclast.make vl o imm) EOp.vaesenclast.row vl o 128 (lanes aesEncLast) ∧
    EvexCompletes (EOp.vpclmulqdq.make vl o imm) EOp.vpclmulqdq.row vl o 128
      (fun _ x y j => clmul (elem 64 x (if imm.getLsbD 0 then 2 * j + 1 else 2 * j))
        (elem 64 y (if imm.getLsbD 4 then 2 * j + 1 else 2 * j)))

/-! ## VPCOMPRESS and VPEXPAND -/

/-- VPCOMPRESSB and VPCOMPRESSW to a register complete (`vpcompressb128r` to `vpcompressw512r`; R251 to
R253): the active elements stand together at the bottom, in order; above them the old elements, or 0
under zeroing; above the vector length 0. -/
def Obligations.CompressToRegister : Prop :=
  ∀ (e : POp) (vl : VL) (o : EvexOps (BitVec 5)) (s : State),
    e = .vpcompressb ∨ e = .vpcompressw → s.EvexReady e.regRow vl o.anyReg →
    let w := 8 * e.regRow.elem
    let rank := fun j => ((List.range j).filter (s.active o.aaa)).length
    ∃ t, exec (e.makeReg vl o) s = .next t ∧
      (∀ j, j < vlElems vl w → s.active o.aaa j = true →
        elem w (t.zmmAt o.rm) (rank j) = elem w (s.zmmAt o.reg) j) ∧
      (∀ j, rank (vlElems vl w) ≤ j → j < vlElems vl w →
        elem w (t.zmmAt o.rm) j = if o.z then 0 else elem w (s.zmmAt o.rm) j) ∧
      (∀ n, 8 * vlBytes vl ≤ n → (t.zmmAt o.rm).getLsbD n = false) ∧
      WritesVector o.rm (e.makeReg vl o).len s t

/-- VPEXPANDB and VPEXPANDW from a register complete (`vpexpandb128r` to `vpexpandw512r`; R256, R257): the
`k`-th active element is element `k` of the source. -/
def Obligations.ExpandFromRegister : Prop :=
  ∀ (e : POp) (vl : VL) (o : EvexOps (BitVec 5)) (s : State),
    e = .vpexpandb ∨ e = .vpexpandw → s.EvexReady e.regRow vl o.anyReg →
    let w := 8 * e.regRow.elem
    let rank := fun j => ((List.range j).filter (s.active o.aaa)).length
    ∃ t, exec (e.makeReg vl o) s = .next t ∧
      MaskedResult w vl o.aaa o.z s (s.zmmAt o.reg) (t.zmmAt o.reg)
        (fun j => elem w (s.zmmAt o.rm) (rank j)) ∧
      WritesVector o.reg (e.makeReg vl o).len s t

/-- VPCOMPRESSB and VPCOMPRESSW to memory complete (`vpcompressb128m` to `vpcompressw512m`; R252 to R254):
exactly the `n * e` bytes of the `n` active elements are checked and stored, contiguous from the
operand's address; with no active element nothing is. -/
def Obligations.CompressToMemory : Prop :=
  ∀ (e : POp) (vl : VL) (o : EvexOps Mem) (s : State),
    e = .vpcompressb ∨ e = .vpcompressw → s.EvexReady e.memRow vl o.anyMem → Memory.wf s.mem →
    let sz := e.memRow.elem
    let rank := fun j => ((List.range j).filter (s.active o.aaa)).length
    let bytes := rank (vlElems vl (8 * sz)) * sz
    let ea := s.evexAddr e.memRow vl o.anyMem o.rm
    let la := s.linear (s.segOf o.pfx o.rm) ea
    (bytes = 0 ∨ s.segOk (s.segOf o.pfx o.rm) ea bytes .write = true ∧
      s.pageFault .write (s.span la bytes) = none) →
    ∃ t, exec (e.makeMem vl o) s = .next t ∧
      (∃ bs : Nat → Byte, Stored s t la bytes bs ∧
        ∀ j b, j < vlElems vl (8 * sz) → s.active o.aaa j = true → b < sz →
          bs (rank j * sz + b) = elem 8 (s.zmmAt o.reg) (j * sz + b)) ∧
      Frame [] [] [] (s.places .write la bytes) s t ∧ StoreRest (s.places .write la bytes) s t ∧
      (bytes = 0 → Quiet s t) ∧
      t.rip = s.rip + BitVec.ofNat 64 (e.makeMem vl o).len

/-- VPEXPANDB and VPEXPANDW from memory complete (`vpexpandb128m` to `vpexpandw512m`; R256 to R258):
exactly the bytes of the active elements are checked and read, contiguous from the operand's address. -/
def Obligations.ExpandFromMemory : Prop :=
  ∀ (e : POp) (vl : VL) (o : EvexOps Mem) (s : State),
    e = .vpexpandb ∨ e = .vpexpandw → s.EvexReady e.memRow vl o.anyMem →
    let sz := e.memRow.elem
    let rank := fun j => ((List.range j).filter (s.active o.aaa)).length
    let bytes := rank (vlElems vl (8 * sz)) * sz
    let ea := s.evexAddr e.memRow vl o.anyMem o.rm
    let la := s.linear (s.segOf o.pfx o.rm) ea
    (bytes = 0 ∨ s.segOk (s.segOf o.pfx o.rm) ea bytes .read = true ∧
      s.pageFault .read (s.span la bytes) = none) →
    ∃ t, exec (e.makeMem vl o) s = .next t ∧
      (∀ j b, j < vlElems vl (8 * sz) → s.active o.aaa j = true → b < sz →
        elem 8 (t.zmmAt o.reg) (j * sz + b) = s.readAt (s.byteAddr la (rank j * sz + b))) ∧
      (∀ j, j < vlElems vl (8 * sz) → s.active o.aaa j = false →
        elem (8 * sz) (t.zmmAt o.reg) j =
          if o.z then 0 else elem (8 * sz) (s.zmmAt o.reg) j) ∧
      (∀ n, 8 * vlBytes vl ≤ n → (t.zmmAt o.reg).getLsbD n = false) ∧
      WritesVector o.reg (e.makeMem vl o).len s t

/-! ## AVX512_VNNI -/

/-- VPDPBUSD, VPDPBUSDS, VPDPWSSD and VPDPWSSDS complete (`vpdpbusd128` to `vpdpwssds512`; R270 to R274):
each doubleword is the exact sum, modulo 2^32 or clamped once to the signed range. -/
def Obligations.DotProducts : Prop :=
  ∀ (vl : VL) (o : EvexOps Rm) (imm : Byte),
    let us := fun (x y : Vec) (j i : Nat) =>
      ((elem 8 x (4 * j + i)).toNat : Int) * (elem 8 y (4 * j + i)).toInt
    let ss := fun (x y : Vec) (j i : Nat) =>
      (elem 16 x (2 * j + i)).toInt * (elem 16 y (2 * j + i)).toInt
    let busd := fun (d x y : Vec) (j : Nat) =>
      (elem 32 d j).toInt + us x y j 0 + us x y j 1 + us x y j 2 + us x y j 3
    let wssd := fun (d x y : Vec) (j : Nat) => (elem 32 d j).toInt + ss x y j 0 + ss x y j 1
    let clamp := fun (v : Int) => BitVec.ofInt 32 (max (-2147483648) (min 2147483647 v))
    EvexCompletes (EOp.vpdpbusd.make vl o imm) EOp.vpdpbusd.row vl o 32
      (fun d x y j => BitVec.ofInt 32 (busd d x y j)) ∧
    EvexCompletes (EOp.vpdpbusds.make vl o imm) EOp.vpdpbusds.row vl o 32
      (fun d x y j => clamp (busd d x y j)) ∧
    EvexCompletes (EOp.vpdpwssd.make vl o imm) EOp.vpdpwssd.row vl o 32
      (fun d x y j => BitVec.ofInt 32 (wssd d x y j)) ∧
    EvexCompletes (EOp.vpdpwssds.make vl o imm) EOp.vpdpwssds.row vl o 32
      (fun d x y j => clamp (wssd d x y j))

/-! ## VPOPCNT and VPSHUFBITQMB -/

/-- VPOPCNTB, VPOPCNTW, VPOPCNTD and VPOPCNTQ complete (`vpopcntb128` to `vpopcntq512`; R280 to R284):
each element is the number of 1 bits of the source's element. -/
def Obligations.PopulationCounts : Prop :=
  ∀ (vl : VL) (o : EvexOps Rm) (imm : Byte),
    let ones := fun (w : Nat) (_ _ y : Vec) (j : Nat) =>
      BitVec.ofNat w ((List.range w).filter (elem w y j).getLsbD).length
    EvexCompletes (EOp.vpopcntb.make vl o imm) EOp.vpopcntb.row vl o 8 (ones 8) ∧
    EvexCompletes (EOp.vpopcntw.make vl o imm) EOp.vpopcntw.row vl o 16 (ones 16) ∧
    EvexCompletes (EOp.vpopcntd.make vl o imm) EOp.vpopcntd.row vl o 32 (ones 32) ∧
    EvexCompletes (EOp.vpopcntq.make vl o imm) EOp.vpopcntq.row vl o 64 (ones 64)

/-- VPSHUFBITQMB completes (`vpshufbitqmb128` to `vpshufbitqmb512`; R286): bit `j` of the destination mask
is the selected bit of quadword `j / 8` where active, else 0, and 0 above KL. -/
def Obligations.ShuffleBits : Prop :=
  ∀ (vl : VL) (o : EvexOps Rm) (imm : Byte) (s : State) (ctrl : Vec),
    s.EvexReady EOp.vpshufbitqmb.row vl o → s.evexSource EOp.vpshufbitqmb.row vl o = .ok ctrl →
    ∃ t, exec (EOp.vpshufbitqmb.make vl o imm) s = .next t ∧
      (∀ j, j < 64 → (t.kAt (o.reg.setWidth 3)).getLsbD j =
        (decide (j < vlBytes vl) && s.active o.aaa j &&
          (s.zmmAt o.vvvv).getLsbD (64 * (j / 8) + (elem 8 ctrl j).toNat % 64))) ∧
      Frame [] [] [o.reg.setWidth 3] [] s t ∧ Quiet s t ∧
      t.rip = s.rip + BitVec.ofNat 64 (EOp.vpshufbitqmb.make vl o imm).len

/-! ## VPSHLD and VPSHRD -/

/-- The concatenated shifts in closed form (R294): for a count below the width, bit by bit; with equal
inputs they rotate. -/
def Obligations.ConcatenatedShifts : Prop :=
  ∀ (w c i : Nat) (a b : BitVec w), c < w → i < w →
    (shld w a b c).getLsbD i = (if c ≤ i then a.getLsbD (i - c) else b.getLsbD (w + i - c)) ∧
    (shrd w a b c).getLsbD i = (if i + c < w then b.getLsbD (i + c) else a.getLsbD (i + c - w)) ∧
    shld w a b c = (a <<< c) ||| (b >>> (w - c)) ∧
    shrd w a b c = (b >>> c) ||| (a <<< (w - c)) ∧
    shld w a a c = a.rotateLeft c ∧ shrd w a a c = a.rotateRight c

/-- VPSHLD and VPSHRD, with an immediate count, complete (`vpshldw128` to `vpshrdq512`; R291 to R293, R299
to R301, R306): the count is taken modulo the width, and the old destination is no input. -/
def Obligations.ImmediateShifts : Prop :=
  ∀ (vl : VL) (o : EvexOps Rm) (imm : Byte),
    let left := fun (w : Nat) (_ x y : Vec) (j : Nat) =>
      shld w (elem w x j) (elem w y j) (imm.toNat % w)
    let right := fun (w : Nat) (_ x y : Vec) (j : Nat) =>
      shrd w (elem w y j) (elem w x j) (imm.toNat % w)
    EvexCompletes (EOp.vpshldw.make vl o imm) EOp.vpshldw.row vl o 16 (left 16) ∧
    EvexCompletes (EOp.vpshldd.make vl o imm) EOp.vpshldd.row vl o 32 (left 32) ∧
    EvexCompletes (EOp.vpshldq.make vl o imm) EOp.vpshldq.row vl o 64 (left 64) ∧
    EvexCompletes (EOp.vpshrdw.make vl o imm) EOp.vpshrdw.row vl o 16 (right 16) ∧
    EvexCompletes (EOp.vpshrdd.make vl o imm) EOp.vpshrdd.row vl o 32 (right 32) ∧
    EvexCompletes (EOp.vpshrdq.make vl o imm) EOp.vpshrdq.row vl o 64 (right 64)

/-- VPSHLDV and VPSHRDV, with counts in the third operand, complete (`vpshldvw128` to `vpshrdvq512`; R296
to R298, R302 to R304, R306): the old destination is an input. -/
def Obligations.VariableShifts : Prop :=
  ∀ (vl : VL) (o : EvexOps Rm) (imm : Byte),
    let left := fun (w : Nat) (d x y : Vec) (j : Nat) =>
      shld w (elem w d j) (elem w x j) ((elem w y j).toNat % w)
    let right := fun (w : Nat) (d x y : Vec) (j : Nat) =>
      shrd w (elem w x j) (elem w d j) ((elem w y j).toNat % w)
    EvexCompletes (EOp.vpshldvw.make vl o imm) EOp.vpshldvw.row vl o 16 (left 16) ∧
    EvexCompletes (EOp.vpshldvd.make vl o imm) EOp.vpshldvd.row vl o 32 (left 32) ∧
    EvexCompletes (EOp.vpshldvq.make vl o imm) EOp.vpshldvq.row vl o 64 (left 64) ∧
    EvexCompletes (EOp.vpshrdvw.make vl o imm) EOp.vpshrdvw.row vl o 16 (right 16) ∧
    EvexCompletes (EOp.vpshrdvd.make vl o imm) EOp.vpshrdvd.row vl o 32 (right 32) ∧
    EvexCompletes (EOp.vpshrdvq.make vl o imm) EOp.vpshrdvq.row vl o 64 (right 64)

/-! ## Direct stores -/

/-- MOVDIRI m32 and m64 complete (R170 to R172): the 4 or 8 low bytes of the register are at the operand's
address, lowest byte first, and every other byte is as before. -/
def Obligations.Movdiri : Prop :=
  ∀ (p : Pfx) (m : Mem) (reg : BitVec 4) (s : State) (n : Nat) (i : Instr) (la : Word),
    (n = 4 ∧ i = .movdiri32 p m reg) ∨ (n = 8 ∧ i = .movdiri64 p m reg) →
    s.DirectReady p .movdiri → p.has .osize = false → Memory.wf s.mem →
    s.segOk (s.segOf p m) (s.operandAddr p i.len 1 m) n .write = true →
    s.linear (s.segOf p m) (s.operandAddr p i.len 1 m) = la →
    (s.alignChecked = true → la.toNat % n = 0) →
    s.pageFault .write (s.span la n) = none →
    ∃ t, exec i s = .next t ∧
      Stored s t la n (fun j => (s.gprAt reg).extractLsb' (8 * j) 8) ∧
      Frame [] [] [] (s.places .write la n) s t ∧ StoreRest (s.places .write la n) s t ∧
      t.rip = s.rip + BitVec.ofNat 64 i.len

/-- MOVDIR64B completes (R172, R173): the 64 bytes found at the source before any is written (R71; log 21)
are at the destination, an offset in ES, and every other byte is as before, also where the two
overlap. -/
def Obligations.Movdir64b : Prop :=
  ∀ (p : Pfx) (reg : BitVec 4) (m : Mem) (s : State) (i : Instr) (sla dla : Word),
    i = .movdir64b p reg m →
    s.DirectReady p .movdir64b → Memory.wf s.mem →
    s.segOk (s.segOf p m) (s.operandAddr p i.len 1 m) 64 .read = true →
    s.linear (s.segOf p m) (s.operandAddr p i.len 1 m) = sla →
    s.segOk .es (truncA (s.asize p) (s.gprAt reg)) 64 .write = true →
    s.linear .es (truncA (s.asize p) (s.gprAt reg)) = dla →
    (truncA (s.asize p) (s.gprAt reg)).toNat % 64 = 0 →
    s.pageFault .read (s.span sla 64) = none → s.pageFault .write (s.span dla 64) = none →
    ∃ t, exec i s = .next t ∧
      Stored s t dla 64 (fun j => s.readAt (s.byteAddr sla j)) ∧
      Frame [] [] [] (s.places .write dla 64) s t ∧ StoreRest (s.places .write dla 64) s t ∧
      t.rip = s.rip + BitVec.ofNat 64 i.len

/-- Where the direct stores stop (R66, R68, R69, R74, R170, R173, R312, R342). MOVDIRI with 66, and either
without its feature flag, is #UD; in a transaction they are refused (D10), after #UD (log 34). MOVDIRI: an
illegal address; an unaligned one where alignment is checked, #AC; a byte that does not translate, #PF.
MOVDIR64B: an illegal source; an illegal destination; a destination not 64-byte aligned, #GP; a page fault
of the source; of the destination. The order of #AC and #PF is the model's choice (log 19): #AC is stated
where no byte faults, #PF where alignment is not at fault. The lowest byte's fault is (log 20). -/
def Obligations.DirectStoreStops : Prop :=
  ∀ (p : Pfx) (m : Mem) (reg : BitVec 4) (s : State) (i : Instr),
    let g := s.segOf p m
    let ea := s.operandAddr p i.len 1 m
    let dea := truncA (s.asize p) (s.gprAt reg)
    let stops := fun f => exec i s = .fault f
    let ud : Fault := .exception .ud none none
    let gp : Fault := .exception .gp s.code0 none
    (∀ n, (n = 4 ∧ i = .movdiri32 p m reg) ∨ (n = 8 ∧ i = .movdiri64 p m reg) →
      (p.has .osize = true ∨ s.hasAll [.movdiri] = false → stops ud) ∧
      (p.has .lock = false → p.has .osize = false → s.hasAll [.movdiri] = true → s.inTx = true →
        exec i s = .refused .txSilent) ∧
      (s.DirectReady p .movdiri → p.has .osize = false →
        (s.segOk g ea n .write = true → s.ctl.cr0.getLsbD 18 = true → s.rflags.getLsbD 18 = true →
          s.cpl = 3 → (s.linear g ea).toNat % n ≠ 0 →
          s.pageFault .write (s.span (s.linear g ea) n) = none →
          stops (.exception .ac (some 0) none)) ∧
        (∀ f, (s.segOk g ea n .write = true → s.alignChecked = true →
            (s.linear g ea).toNat % n = 0) →
          s.PieceFaults g ea n .write f → stops f))) ∧
    (i = .movdir64b p reg m →
      (s.hasAll [.movdir64b] = false → stops ud) ∧
      (p.has .lock = false → s.hasAll [.movdir64b] = true → s.inTx = true →
        exec i s = .refused .txSilent) ∧
      (s.DirectReady p .movdir64b →
        (s.segOk g ea 64 .read = false → stops (.exception (s.segExc g) s.code0 none)) ∧
        (s.segOk g ea 64 .read = true → s.segOk .es dea 64 .write = false → stops gp) ∧
        (s.segOk g ea 64 .read = true → s.segOk .es dea 64 .write = true →
          ((s.gprAt reg).toNat % 64 ≠ 0 → stops gp) ∧
          ((s.gprAt reg).toNat % 64 = 0 →
            (∀ f, s.PieceFaults g ea 64 .read f → stops f) ∧
            (∀ f, s.PiecePasses g ea 64 .read → s.PieceFaults .es dea 64 .write f → stops f)))))

/-! ## CLDEMOTE and WBNOINVD -/

/-- CLDEMOTE completes with nothing changed but RIP, whatever its address, without its feature flag always
(R140, R141). In a transaction on an implementation that may abort it, it aborts or completes, by a free
value (R342; log 33). -/
def Obligations.Cldemote : Prop :=
  ∀ (p : Pfx) (m : Mem) (s : State), p.has .lock = false →
    let len := (Instr.cldemote p m).len
    (s.hasAll [.cldemote] = false ∨ s.inTx = false ∨ s.cfg.cldemoteAbortsTsx = false →
      ∃ t, exec (.cldemote p m) s = .next t ∧ Frame [] [] [] [] s t ∧ Quiet s t ∧
        t.rip = s.rip + BitVec.ofNat 64 len) ∧
    (s.hasAll [.cldemote] = true → s.inTx = true → s.cfg.cldemoteAbortsTsx = true →
      (Config.cldemoteAborts s.draws = true → exec (.cldemote p m) s = .fault .txAbort) ∧
      (Config.cldemoteAborts s.draws = false →
        ∃ t, exec (.cldemote p m) s = .next t ∧ Frame [] [] [] [] s t ∧ Still s t ∧
          t.rip = s.rip + BitVec.ofNat 64 len))

/-- WBNOINVD completes at CPL 0 outside virtual-8086 mode, and in real-address mode, with nothing changed
but RIP and the model's record of stored bytes; elsewhere it raises #GP(0); without its feature flag it
is refused (R86, R145 to R147; D19). In VMX non-root operation and in a transaction it is refused (R340,
R342, D10), after #GP (log 34). -/
def Obligations.Wbnoinvd : Prop :=
  ∀ (p : Pfx) (s : State), p.has .lock = false →
    (s.hasAll [.wbnoinvd] = false → exec (.wbnoinvd p) s = .refused .wbnoinvdAbsent) ∧
    (s.hasAll [.wbnoinvd] = true → s.cpl ≠ 0 ∨ s.mode = .v86 →
      exec (.wbnoinvd p) s = .fault (.exception .gp (some 0) none)) ∧
    (s.hasAll [.wbnoinvd] = true → s.cpl = 0 →
      (s.inGuest = true → exec (.wbnoinvd p) s = .refused .vmxSilent) ∧
      (s.inGuest = false → s.inTx = true → exec (.wbnoinvd p) s = .refused .txSilent) ∧
      (s.inGuest = false → s.inTx = false →
        ∃ t, exec (.wbnoinvd p) s = .next t ∧ Frame [] [] [] [] s t ∧ t.rflags = s.rflags ∧
          SameKeys s t ∧ SameTime s t ∧ t.monitor = s.monitor ∧ t.draws = s.draws ∧
          t.written = [] ∧ t.rip = s.rip + BitVec.ofNat 64 (Instr.wbnoinvd p).len))

/-! ## PCONFIG -/

/-- PCONFIG programs a key, in VMX non-root operation too where the exiting bit of the leaf is clear (R186,
R187, R191, R192): with a valid command, KeyID and algorithm and the lock
free, the entry of the KeyID becomes what the command says, every other entry stays, the lock is free,
and it returns 0. For the random command this is where both draws succeed. -/
def Obligations.PconfigProgramsKey : Prop :=
  ∀ (p : Pfx) (s : State) (la : Word) (b : Nat),
    let id := (s.load la 2 16).toNat
    let cmd := (s.load (la + 2) 1 8).toNat
    let key1 := s.load (la + 64) 16 128
    let key2 := s.load (la + 128) 16 128
    s.PconfigReady p → s.KeyStructAt la → KeyTable.wf s.keyTable →
    cmd ≤ 3 → 0 < id → id < 2 ^ s.msr.tmeKeyidBits.toNat → id ≤ s.msr.tmeMaxKeys.toNat →
    b < 16 → s.load (la + 3) 2 16 = BitVec.twoPow 16 b → s.msr.tmeCryptoAlgs.getLsbD b = true →
    s.keyLock = .unlocked →
    (cmd = 1 → (Config.entropy s.draws).isSome ∧ (Config.entropy (s.draws + 1)).isSome) →
    ∃ t, exec (.pconfig p) s = .next t ∧
      (cmd = 0 → t.keyAt id = { dataKey := key1, tweakKey := key2, mode := .keyidKey }) ∧
      (cmd = 1 → ∀ d1 d2, Config.entropy s.draws = some d1 → Config.entropy (s.draws + 1) = some d2 →
        t.keyAt id = { dataKey := d1 ^^^ key1, tweakKey := d2 ^^^ key2, mode := .keyidKey }) ∧
      (cmd = 2 → t.keyAt id = { dataKey := 0, tweakKey := 0, mode := .tmeKey }) ∧
      (cmd = 3 → t.keyAt id = { s.keyAt id with mode := .noEncryption }) ∧
      (∀ k, k ≠ id → t.keyAt k = s.keyAt k) ∧ t.keyLock = .unlocked ∧
      PconfigReturns 0 (Instr.pconfig p).len s t

/-- PCONFIG that does not succeed (R185, R186, R189, R190): the first failing check decides the code, and
the key table and its lock stay as they were; the random command without enough entropy returns 2 and
leaves the key table, and the lock is released or kept by this processor as the parameter says (C14,
D21). -/
def Obligations.PconfigStatus : Prop :=
  ∀ (p : Pfx) (s : State) (la : Word),
    let id := (s.load la 2 16).toNat
    let cmd := (s.load (la + 2) 1 8).toNat
    let alg := s.load (la + 3) 2 16
    let badId := 2 ^ s.msr.tmeKeyidBits.toNat - 1 < id ∨ s.msr.tmeMaxKeys.toNat < id ∨ id = 0
    let badAlg := (∀ b, b < 16 → alg ≠ BitVec.twoPow 16 b) ∨ alg &&& s.msr.tmeCryptoAlgs = 0
    let returns := fun code => ∃ t, exec (.pconfig p) s = .next t ∧
      PconfigReturns code (Instr.pconfig p).len s t ∧ SameKeys s t
    s.PconfigReady p → s.KeyStructAt la →
    (3 < cmd → returns 1) ∧
    (cmd ≤ 3 → badId → returns 3) ∧
    (cmd ≤ 3 → ¬ badId → badAlg → returns 4) ∧
    (cmd ≤ 3 → ¬ badId → ¬ badAlg → s.keyLock ≠ .unlocked → returns 5) ∧
    (cmd = 1 → ¬ badId → ¬ badAlg → s.keyLock = .unlocked →
      Config.entropy s.draws = none ∨ Config.entropy (s.draws + 1) = none →
      ∃ t, exec (.pconfig p) s = .next t ∧ t.keyTable = s.keyTable ∧
        t.keyLock = (if s.cfg.pconfigEntropyReleasesLock then .unlocked else .exclusive .self) ∧
        PconfigReturns 2 (Instr.pconfig p).len s t)

/-- Where PCONFIG stops (R180, R183, R187, R188, R192). #UD for a prefix, virtual-8086 mode, the feature
flag, CPL, the enable control, all before the VM exit; the exit by the leaf's bit, before every #GP; in
VMX non-root operation with that bit clear, as outside it, #GP for another leaf and for MKTME not
activated; then the refusal in a transaction (R342, D10); #GP for a structure outside DS, or not 256-byte
aligned; #PF for a byte of it that does not translate; #GP for a reserved byte that is not 0. That the
refusal comes after #UD, the exit and the #GP of the leaf is the model's reading (log 34), that the lowest
byte's page fault is raised its choice (log 20). -/
def Obligations.PconfigStops : Prop :=
  ∀ (p : Pfx) (s : State),
    let undefined := p.has .lock = true ∨ p.has .rep = true ∨ p.has .repne = true ∨
      p.has .osize = true ∨ s.mode = .v86 ∨ s.hasAll [.pconfig] = false ∨ s.cpl ≠ 0 ∨
      (s.inGuest = true ∧ s.vmx.pconfigEnable = false)
    let exits := s.inGuest = true ∧
      (62 < s.eax.toNat ∧ s.vmx.pconfigExiting.getLsbD 63 = true ∨
        s.eax.toNat < 63 ∧ s.vmx.pconfigExiting.getLsbD s.eax.toNat = true)
    let unusable := s.eax ≠ 0 ∨ s.msr.tmeLock = false ∨ s.msr.tmeEnable = false ∨
      s.msr.tmeKeyidBits = 0
    let protects := exec (.pconfig p) s = .fault (.exception .gp s.code0 none)
    (undefined → exec (.pconfig p) s = .fault (.exception .ud none none)) ∧
    (¬ undefined → exits → exec (.pconfig p) s = .fault (.vmExit .pconfig)) ∧
    (¬ undefined → ¬ exits → unusable → protects) ∧
    (¬ undefined → ¬ exits → ¬ unusable → s.inTx = true →
      exec (.pconfig p) s = .refused .txSilent) ∧
    (s.PconfigReady p →
      (s.segOk .ds s.keyAddr 192 .read = false → protects) ∧
      ∀ la, s.segOk .ds s.keyAddr 192 .read = true → s.linear .ds s.keyAddr = la →
        (la.toNat % 256 ≠ 0 → protects) ∧
        (la.toNat % 256 = 0 →
          (∀ a c, s.pageFault .read (s.span la 192) = some (a, c) →
            exec (.pconfig p) s =
              .fault (.exception .pf (some c) (some (BitVec.ofNat 64 a)))) ∧
          (s.pageFault .read (s.span la 192) = none →
            (∃ i, (i = 5 ∨ 6 ≤ i ∧ i < 64 ∨ 80 ≤ i ∧ i < 128 ∨ 144 ≤ i ∧ i < 192) ∧
              s.readAt (s.byteAddr la i) ≠ 0) → protects)))

/-! ## UMONITOR, TPAUSE, UMWAIT -/

/-- UMONITOR completes (R200, R202): the monitor is armed at the linear address of the register in DS or
the overriding segment, by UMONITOR; no register, flag or byte of memory changes. That an override is
taken as it stands in 64-bit mode too is the model's choice (log 19). -/
def Obligations.Umonitor : Prop :=
  ∀ (p : Pfx) (r : BitVec 5) (s : State) (la : Word),
    let ea := truncA (s.asize p) (s.gprAt (r.setWidth 4))
    let g := p.override.getD .ds
    p.has .lock = false → s.hasAll [.waitpkg] = true → s.inTx = false →
    s.segOk g ea 1 .read = true → s.linear g ea = la → s.pageFault .read (s.span la 1) = none →
    ∃ t, exec (.umonitor p (.reg r)) s = .next t ∧
      t.monitor = { armed := true, addr := la, setBy := .umonitor } ∧
      Frame [] [] [] [] s t ∧ t.rflags = s.rflags ∧ SameKeys s t ∧ SameTime s t ∧
      t.written = s.written ∧ t.draws = s.draws ∧
      t.rip = s.rip + BitVec.ofNat 64 (Instr.umonitor p (.reg r)).len

/-- Where UMONITOR, TPAUSE and UMWAIT stop (R200, R203, R204, R211, R342). No feature flag or a memory form
is #UD; a control word with a bit above bit 0 is #GP. UMONITOR: #SS for an illegal address in SS, in
every mode, and #GP in another segment or with a null one; #PF where its byte does not translate; and,
past those checks, in a transaction the abort (D25), as UMWAIT past its own. That the #GP of a null SS
is UMONITOR's alone is the model's reading (log 19). -/
def Obligations.WaitpkgStops : Prop :=
  ∀ (p : Pfx) (rm : Rm) (s : State),
    let stops := fun i => exec i s = .fault (.exception .ud none none)
    ((s.hasAll [.waitpkg] = false ∨ ∃ m, rm = .mem m) →
      stops (.umonitor p rm) ∧ stops (.tpause p rm) ∧ stops (.umwait p rm)) ∧
    (∀ r, rm = .reg r → p.has .lock = false → s.hasAll [.waitpkg] = true →
      let ea := truncA (s.asize p) (s.gprAt (r.setWidth 4))
      let g := p.override.getD .ds
      let null := (s.mode = .prot ∨ s.mode = .compat) ∧ (s.seg g).null = true
      (((s.gprAt (r.setWidth 4)).setWidth 32 : BitVec 32).toNat ≥ 2 →
        ∀ i, i = .tpause p rm ∨ i = .umwait p rm →
          exec i s = .fault (.exception .gp s.code0 none)) ∧
      (s.segOk g ea 1 .read = false →
        (g = .ss → ¬ null → exec (.umonitor p rm) s = .fault (.exception .ss s.code0 none)) ∧
        (g ≠ .ss ∨ null → exec (.umonitor p rm) s = .fault (.exception .gp s.code0 none))) ∧
      (s.segOk g ea 1 .read = true →
        (∀ a c, s.pageFault .read (s.span (s.linear g ea) 1) = some (a, c) →
          exec (.umonitor p rm) s =
            .fault (.exception .pf (some c) (some (BitVec.ofNat 64 a)))) ∧
        (s.pageFault .read (s.span (s.linear g ea) 1) = none → s.inTx = true →
          exec (.umonitor p rm) s = .fault .txAbort)) ∧
      (s.WaitReady p r → s.inTx = true → exec (.umwait p rm) s = .fault .txAbort))

/-- `Deadline()` (R205): the operating system's limit is the MSR with bits 1:0 cleared, zero means no
limit, the sum does not wrap, and where the two deadlines are equal the instruction's own is used. -/
def Obligations.Deadline : Prop :=
  ∀ s : State,
    let limit := (s.msr.umwaitControl &&& 0xFFFFFFFC).toNat
    let own := (s.gprAt 2).toNat % 2 ^ 32 * 2 ^ 32 + (s.gprAt 0).toNat % 2 ^ 32
    (limit = 0 → s.deadline = (own, false)) ∧
    (limit ≠ 0 → s.tsc.toNat + limit < own → s.deadline = (s.tsc.toNat + limit, true)) ∧
    (limit ≠ 0 → own ≤ s.tsc.toNat + limit → s.deadline = (own, false))

/-- `RequestedState` (R207): bit 0 of the control word asks for C0.1, and C02_DISABLE turns every request
into one for C0.1; any other bit of the control word is #GP. -/
def Obligations.RequestedState : Prop :=
  ∀ (s : State) (ctl : BitVec 32) (op : WaitOp) (len : Nat),
    (s.newWait op ctl len).level =
      (if ctl.getLsbD 0 = true ∨ s.msr.umwaitControl.getLsbD 0 = true then .c01 else .c02) ∧
    ∀ (p : Pfx) (r : BitVec 5), p.has .lock = false → s.hasAll [.waitpkg] = true →
      (s.gprAt (r.setWidth 4)).setWidth 32 = ctl → (∃ n, 0 < n ∧ ctl.getLsbD n = true) →
      ∃ c, exec (.tpause p (.reg r)) s = .fault (.exception .gp c none) ∧
        exec (.umwait p (.reg r)) s = .fault (.exception .gp c none)

/-- TPAUSE completes at once where the deadline has passed or an event is pending, and, where RESET# is not
pending, otherwise goes on waiting with RIP unchanged or is ended by an implementation-dependent event
(R203, R206, R208; log 9). -/
def Obligations.Tpause : Prop :=
  ∀ (p : Pfx) (r : BitVec 5) (s : State), s.WaitReady p r → Event.reset ∉ s.pending →
    let ctl := (s.gprAt (r.setWidth 4)).setWidth 32
    let len := (Instr.tpause p (.reg r)).len
    let w := s.newWait .tpause ctl len
    ∃ t, exec (.tpause p (.reg r)) s = .next t ∧
      (s.deadline.1 ≤ s.tsc.toNat ∨ s.pending ≠ [] →
        WaitEnds s.deadline.1 s.deadline.2 len s t) ∧
      (WaitEnds s.deadline.1 s.deadline.2 len s t ∨ WaitGoesOn w s t)

/-- UMWAIT completes at once where the monitor is not armed or was not armed by UMONITOR, where the
deadline has passed, or where an event is pending; otherwise it waits or is ended by an
implementation-dependent event (R204, R206, R208; log 9). -/
def Obligations.Umwait : Prop :=
  ∀ (p : Pfx) (r : BitVec 5) (s : State), s.WaitReady p r → s.inTx = false →
    Event.reset ∉ s.pending →
    let ctl := (s.gprAt (r.setWidth 4)).setWidth 32
    let len := (Instr.umwait p (.reg r)).len
    let w := s.newWait .umwait ctl len
    ∃ t, exec (.umwait p (.reg r)) s = .next t ∧
      (s.monitor.armed = false ∨ s.monitor.setBy ≠ .umonitor ∨ s.deadline.1 ≤ s.tsc.toNat ∨
          s.pending ≠ [] →
        WaitEnds s.deadline.1 s.deadline.2 len s t) ∧
      (WaitEnds s.deadline.1 s.deadline.2 len s t ∨ WaitGoesOn w s t)

/-- A store of any agent to the place of the monitored address, in memory that is write-back for a read or
for a write, disarms the monitor and leaves the rest of it (R49, R70, R201); a store to places that no
monitored address has leaves it as it was. Which other addresses are in the range is left open (log 10). -/
def Obligations.StoreTriggersMonitor : Prop :=
  ∀ (s : State) (pas : List Nat) (bs : List Byte),
    (∀ acc pa, s.monitor.armed = true → s.translate acc s.monitor.addr.toNat = .ok pa .wb →
      pa ∈ pas → (s.landStore pas bs).monitor = { s.monitor with armed := false }) ∧
    ((∀ a acc pa t, s.monitor.covers a = true → s.translate acc a = .ok pa t → pa ∉ pas) →
      (s.landStore pas bs).monitor = s.monitor)
end

