-- ==== Sys2Proof/Laws/State.lean ====
section
/-! SUPPORT. One lemma per field per state update, true by `rfl`; reading a register after writing one. -/

namespace Sys2Proof.Machine

/-! ### `setGpr` -/

@[simp] theorem State.setGpr_cfg (s : State) (r : BitVec 4) (v : Word) : (s.setGpr r v).cfg = s.cfg := rfl
@[simp] theorem State.setGpr_rip (s : State) (r : BitVec 4) (v : Word) : (s.setGpr r v).rip = s.rip := rfl
@[simp] theorem State.setGpr_rflags (s : State) (r : BitVec 4) (v : Word) : (s.setGpr r v).rflags = s.rflags := rfl
@[simp] theorem State.setGpr_segs (s : State) (r : BitVec 4) (v : Word) : (s.setGpr r v).segs = s.segs := rfl
@[simp] theorem State.setGpr_ctl (s : State) (r : BitVec 4) (v : Word) : (s.setGpr r v).ctl = s.ctl := rfl
@[simp] theorem State.setGpr_zmm (s : State) (r : BitVec 4) (v : Word) : (s.setGpr r v).zmm = s.zmm := rfl
@[simp] theorem State.setGpr_k (s : State) (r : BitVec 4) (v : Word) : (s.setGpr r v).k = s.k := rfl
@[simp] theorem State.setGpr_msr (s : State) (r : BitVec 4) (v : Word) : (s.setGpr r v).msr = s.msr := rfl
@[simp] theorem State.setGpr_vmx (s : State) (r : BitVec 4) (v : Word) : (s.setGpr r v).vmx = s.vmx := rfl
@[simp] theorem State.setGpr_tsx (s : State) (r : BitVec 4) (v : Word) : (s.setGpr r v).tsx = s.tsx := rfl
@[simp] theorem State.setGpr_tsc (s : State) (r : BitVec 4) (v : Word) : (s.setGpr r v).tsc = s.tsc := rfl
@[simp] theorem State.setGpr_monitor (s : State) (r : BitVec 4) (v : Word) : (s.setGpr r v).monitor = s.monitor := rfl
@[simp] theorem State.setGpr_wait (s : State) (r : BitVec 4) (v : Word) : (s.setGpr r v).wait = s.wait := rfl
@[simp] theorem State.setGpr_pending (s : State) (r : BitVec 4) (v : Word) : (s.setGpr r v).pending = s.pending := rfl
@[simp] theorem State.setGpr_keyLock (s : State) (r : BitVec 4) (v : Word) : (s.setGpr r v).keyLock = s.keyLock := rfl
@[simp] theorem State.setGpr_keyTable (s : State) (r : BitVec 4) (v : Word) : (s.setGpr r v).keyTable = s.keyTable := rfl
@[simp] theorem State.setGpr_mem (s : State) (r : BitVec 4) (v : Word) : (s.setGpr r v).mem = s.mem := rfl
@[simp] theorem State.setGpr_pages (s : State) (r : BitVec 4) (v : Word) : (s.setGpr r v).pages = s.pages := rfl
@[simp] theorem State.setGpr_written (s : State) (r : BitVec 4) (v : Word) : (s.setGpr r v).written = s.written := rfl
@[simp] theorem State.setGpr_inputs (s : State) (r : BitVec 4) (v : Word) : (s.setGpr r v).inputs = s.inputs := rfl
@[simp] theorem State.setGpr_racing (s : State) (r : BitVec 4) (v : Word) : (s.setGpr r v).racing = s.racing := rfl
@[simp] theorem State.setGpr_draws (s : State) (r : BitVec 4) (v : Word) : (s.setGpr r v).draws = s.draws := rfl

/-! ### `setZmm` -/

@[simp] theorem State.setZmm_cfg (s : State) (r : BitVec 5) (v : Vec) : (s.setZmm r v).cfg = s.cfg := rfl
@[simp] theorem State.setZmm_gpr (s : State) (r : BitVec 5) (v : Vec) : (s.setZmm r v).gpr = s.gpr := rfl
@[simp] theorem State.setZmm_rip (s : State) (r : BitVec 5) (v : Vec) : (s.setZmm r v).rip = s.rip := rfl
@[simp] theorem State.setZmm_rflags (s : State) (r : BitVec 5) (v : Vec) : (s.setZmm r v).rflags = s.rflags := rfl
@[simp] theorem State.setZmm_segs (s : State) (r : BitVec 5) (v : Vec) : (s.setZmm r v).segs = s.segs := rfl
@[simp] theorem State.setZmm_ctl (s : State) (r : BitVec 5) (v : Vec) : (s.setZmm r v).ctl = s.ctl := rfl
@[simp] theorem State.setZmm_k (s : State) (r : BitVec 5) (v : Vec) : (s.setZmm r v).k = s.k := rfl
@[simp] theorem State.setZmm_msr (s : State) (r : BitVec 5) (v : Vec) : (s.setZmm r v).msr = s.msr := rfl
@[simp] theorem State.setZmm_vmx (s : State) (r : BitVec 5) (v : Vec) : (s.setZmm r v).vmx = s.vmx := rfl
@[simp] theorem State.setZmm_tsx (s : State) (r : BitVec 5) (v : Vec) : (s.setZmm r v).tsx = s.tsx := rfl
@[simp] theorem State.setZmm_tsc (s : State) (r : BitVec 5) (v : Vec) : (s.setZmm r v).tsc = s.tsc := rfl
@[simp] theorem State.setZmm_monitor (s : State) (r : BitVec 5) (v : Vec) : (s.setZmm r v).monitor = s.monitor := rfl
@[simp] theorem State.setZmm_wait (s : State) (r : BitVec 5) (v : Vec) : (s.setZmm r v).wait = s.wait := rfl
@[simp] theorem State.setZmm_pending (s : State) (r : BitVec 5) (v : Vec) : (s.setZmm r v).pending = s.pending := rfl
@[simp] theorem State.setZmm_keyLock (s : State) (r : BitVec 5) (v : Vec) : (s.setZmm r v).keyLock = s.keyLock := rfl
@[simp] theorem State.setZmm_keyTable (s : State) (r : BitVec 5) (v : Vec) : (s.setZmm r v).keyTable = s.keyTable := rfl
@[simp] theorem State.setZmm_mem (s : State) (r : BitVec 5) (v : Vec) : (s.setZmm r v).mem = s.mem := rfl
@[simp] theorem State.setZmm_pages (s : State) (r : BitVec 5) (v : Vec) : (s.setZmm r v).pages = s.pages := rfl
@[simp] theorem State.setZmm_written (s : State) (r : BitVec 5) (v : Vec) : (s.setZmm r v).written = s.written := rfl
@[simp] theorem State.setZmm_inputs (s : State) (r : BitVec 5) (v : Vec) : (s.setZmm r v).inputs = s.inputs := rfl
@[simp] theorem State.setZmm_racing (s : State) (r : BitVec 5) (v : Vec) : (s.setZmm r v).racing = s.racing := rfl
@[simp] theorem State.setZmm_draws (s : State) (r : BitVec 5) (v : Vec) : (s.setZmm r v).draws = s.draws := rfl

/-! ### `setK` -/

@[simp] theorem State.setK_cfg (s : State) (r : BitVec 3) (v : Mask) : (s.setK r v).cfg = s.cfg := rfl
@[simp] theorem State.setK_gpr (s : State) (r : BitVec 3) (v : Mask) : (s.setK r v).gpr = s.gpr := rfl
@[simp] theorem State.setK_rip (s : State) (r : BitVec 3) (v : Mask) : (s.setK r v).rip = s.rip := rfl
@[simp] theorem State.setK_rflags (s : State) (r : BitVec 3) (v : Mask) : (s.setK r v).rflags = s.rflags := rfl
@[simp] theorem State.setK_segs (s : State) (r : BitVec 3) (v : Mask) : (s.setK r v).segs = s.segs := rfl
@[simp] theorem State.setK_ctl (s : State) (r : BitVec 3) (v : Mask) : (s.setK r v).ctl = s.ctl := rfl
@[simp] theorem State.setK_zmm (s : State) (r : BitVec 3) (v : Mask) : (s.setK r v).zmm = s.zmm := rfl
@[simp] theorem State.setK_msr (s : State) (r : BitVec 3) (v : Mask) : (s.setK r v).msr = s.msr := rfl
@[simp] theorem State.setK_vmx (s : State) (r : BitVec 3) (v : Mask) : (s.setK r v).vmx = s.vmx := rfl
@[simp] theorem State.setK_tsx (s : State) (r : BitVec 3) (v : Mask) : (s.setK r v).tsx = s.tsx := rfl
@[simp] theorem State.setK_tsc (s : State) (r : BitVec 3) (v : Mask) : (s.setK r v).tsc = s.tsc := rfl
@[simp] theorem State.setK_monitor (s : State) (r : BitVec 3) (v : Mask) : (s.setK r v).monitor = s.monitor := rfl
@[simp] theorem State.setK_wait (s : State) (r : BitVec 3) (v : Mask) : (s.setK r v).wait = s.wait := rfl
@[simp] theorem State.setK_pending (s : State) (r : BitVec 3) (v : Mask) : (s.setK r v).pending = s.pending := rfl
@[simp] theorem State.setK_keyLock (s : State) (r : BitVec 3) (v : Mask) : (s.setK r v).keyLock = s.keyLock := rfl
@[simp] theorem State.setK_keyTable (s : State) (r : BitVec 3) (v : Mask) : (s.setK r v).keyTable = s.keyTable := rfl
@[simp] theorem State.setK_mem (s : State) (r : BitVec 3) (v : Mask) : (s.setK r v).mem = s.mem := rfl
@[simp] theorem State.setK_pages (s : State) (r : BitVec 3) (v : Mask) : (s.setK r v).pages = s.pages := rfl
@[simp] theorem State.setK_written (s : State) (r : BitVec 3) (v : Mask) : (s.setK r v).written = s.written := rfl
@[simp] theorem State.setK_inputs (s : State) (r : BitVec 3) (v : Mask) : (s.setK r v).inputs = s.inputs := rfl
@[simp] theorem State.setK_racing (s : State) (r : BitVec 3) (v : Mask) : (s.setK r v).racing = s.racing := rfl
@[simp] theorem State.setK_draws (s : State) (r : BitVec 3) (v : Mask) : (s.setK r v).draws = s.draws := rfl

/-! ### `advance` -/

@[simp] theorem State.advance_cfg (s : State) (n : Nat) : (s.advance n).cfg = s.cfg := rfl
@[simp] theorem State.advance_gpr (s : State) (n : Nat) : (s.advance n).gpr = s.gpr := rfl
@[simp] theorem State.advance_rflags (s : State) (n : Nat) : (s.advance n).rflags = s.rflags := rfl
@[simp] theorem State.advance_segs (s : State) (n : Nat) : (s.advance n).segs = s.segs := rfl
@[simp] theorem State.advance_ctl (s : State) (n : Nat) : (s.advance n).ctl = s.ctl := rfl
@[simp] theorem State.advance_zmm (s : State) (n : Nat) : (s.advance n).zmm = s.zmm := rfl
@[simp] theorem State.advance_k (s : State) (n : Nat) : (s.advance n).k = s.k := rfl
@[simp] theorem State.advance_msr (s : State) (n : Nat) : (s.advance n).msr = s.msr := rfl
@[simp] theorem State.advance_vmx (s : State) (n : Nat) : (s.advance n).vmx = s.vmx := rfl
@[simp] theorem State.advance_tsx (s : State) (n : Nat) : (s.advance n).tsx = s.tsx := rfl
@[simp] theorem State.advance_tsc (s : State) (n : Nat) : (s.advance n).tsc = s.tsc := rfl
@[simp] theorem State.advance_monitor (s : State) (n : Nat) : (s.advance n).monitor = s.monitor := rfl
@[simp] theorem State.advance_wait (s : State) (n : Nat) : (s.advance n).wait = s.wait := rfl
@[simp] theorem State.advance_pending (s : State) (n : Nat) : (s.advance n).pending = s.pending := rfl
@[simp] theorem State.advance_keyLock (s : State) (n : Nat) : (s.advance n).keyLock = s.keyLock := rfl
@[simp] theorem State.advance_keyTable (s : State) (n : Nat) : (s.advance n).keyTable = s.keyTable := rfl
@[simp] theorem State.advance_mem (s : State) (n : Nat) : (s.advance n).mem = s.mem := rfl
@[simp] theorem State.advance_pages (s : State) (n : Nat) : (s.advance n).pages = s.pages := rfl
@[simp] theorem State.advance_written (s : State) (n : Nat) : (s.advance n).written = s.written := rfl
@[simp] theorem State.advance_inputs (s : State) (n : Nat) : (s.advance n).inputs = s.inputs := rfl
@[simp] theorem State.advance_racing (s : State) (n : Nat) : (s.advance n).racing = s.racing := rfl
@[simp] theorem State.advance_draws (s : State) (n : Nat) : (s.advance n).draws = s.draws := rfl

/-! ### `setKey` -/

@[simp] theorem State.setKey_cfg (s : State) (id : Nat) (e : KeyEntry) : (s.setKey id e).cfg = s.cfg := rfl
@[simp] theorem State.setKey_gpr (s : State) (id : Nat) (e : KeyEntry) : (s.setKey id e).gpr = s.gpr := rfl
@[simp] theorem State.setKey_rip (s : State) (id : Nat) (e : KeyEntry) : (s.setKey id e).rip = s.rip := rfl
@[simp] theorem State.setKey_rflags (s : State) (id : Nat) (e : KeyEntry) : (s.setKey id e).rflags = s.rflags := rfl
@[simp] theorem State.setKey_segs (s : State) (id : Nat) (e : KeyEntry) : (s.setKey id e).segs = s.segs := rfl
@[simp] theorem State.setKey_ctl (s : State) (id : Nat) (e : KeyEntry) : (s.setKey id e).ctl = s.ctl := rfl
@[simp] theorem State.setKey_zmm (s : State) (id : Nat) (e : KeyEntry) : (s.setKey id e).zmm = s.zmm := rfl
@[simp] theorem State.setKey_k (s : State) (id : Nat) (e : KeyEntry) : (s.setKey id e).k = s.k := rfl
@[simp] theorem State.setKey_msr (s : State) (id : Nat) (e : KeyEntry) : (s.setKey id e).msr = s.msr := rfl
@[simp] theorem State.setKey_vmx (s : State) (id : Nat) (e : KeyEntry) : (s.setKey id e).vmx = s.vmx := rfl
@[simp] theorem State.setKey_tsx (s : State) (id : Nat) (e : KeyEntry) : (s.setKey id e).tsx = s.tsx := rfl
@[simp] theorem State.setKey_tsc (s : State) (id : Nat) (e : KeyEntry) : (s.setKey id e).tsc = s.tsc := rfl
@[simp] theorem State.setKey_monitor (s : State) (id : Nat) (e : KeyEntry) : (s.setKey id e).monitor = s.monitor := rfl
@[simp] theorem State.setKey_wait (s : State) (id : Nat) (e : KeyEntry) : (s.setKey id e).wait = s.wait := rfl
@[simp] theorem State.setKey_pending (s : State) (id : Nat) (e : KeyEntry) : (s.setKey id e).pending = s.pending := rfl
@[simp] theorem State.setKey_keyLock (s : State) (id : Nat) (e : KeyEntry) : (s.setKey id e).keyLock = s.keyLock := rfl
@[simp] theorem State.setKey_mem (s : State) (id : Nat) (e : KeyEntry) : (s.setKey id e).mem = s.mem := rfl
@[simp] theorem State.setKey_pages (s : State) (id : Nat) (e : KeyEntry) : (s.setKey id e).pages = s.pages := rfl
@[simp] theorem State.setKey_written (s : State) (id : Nat) (e : KeyEntry) : (s.setKey id e).written = s.written := rfl
@[simp] theorem State.setKey_inputs (s : State) (id : Nat) (e : KeyEntry) : (s.setKey id e).inputs = s.inputs := rfl
@[simp] theorem State.setKey_racing (s : State) (id : Nat) (e : KeyEntry) : (s.setKey id e).racing = s.racing := rfl
@[simp] theorem State.setKey_draws (s : State) (id : Nat) (e : KeyEntry) : (s.setKey id e).draws = s.draws := rfl

/-! ### `arm` -/

@[simp] theorem State.arm_cfg (s : State) (la : Word) : (s.arm la).cfg = s.cfg := rfl
@[simp] theorem State.arm_gpr (s : State) (la : Word) : (s.arm la).gpr = s.gpr := rfl
@[simp] theorem State.arm_rip (s : State) (la : Word) : (s.arm la).rip = s.rip := rfl
@[simp] theorem State.arm_rflags (s : State) (la : Word) : (s.arm la).rflags = s.rflags := rfl
@[simp] theorem State.arm_segs (s : State) (la : Word) : (s.arm la).segs = s.segs := rfl
@[simp] theorem State.arm_ctl (s : State) (la : Word) : (s.arm la).ctl = s.ctl := rfl
@[simp] theorem State.arm_zmm (s : State) (la : Word) : (s.arm la).zmm = s.zmm := rfl
@[simp] theorem State.arm_k (s : State) (la : Word) : (s.arm la).k = s.k := rfl
@[simp] theorem State.arm_msr (s : State) (la : Word) : (s.arm la).msr = s.msr := rfl
@[simp] theorem State.arm_vmx (s : State) (la : Word) : (s.arm la).vmx = s.vmx := rfl
@[simp] theorem State.arm_tsx (s : State) (la : Word) : (s.arm la).tsx = s.tsx := rfl
@[simp] theorem State.arm_tsc (s : State) (la : Word) : (s.arm la).tsc = s.tsc := rfl
@[simp] theorem State.arm_wait (s : State) (la : Word) : (s.arm la).wait = s.wait := rfl
@[simp] theorem State.arm_pending (s : State) (la : Word) : (s.arm la).pending = s.pending := rfl
@[simp] theorem State.arm_keyLock (s : State) (la : Word) : (s.arm la).keyLock = s.keyLock := rfl
@[simp] theorem State.arm_keyTable (s : State) (la : Word) : (s.arm la).keyTable = s.keyTable := rfl
@[simp] theorem State.arm_mem (s : State) (la : Word) : (s.arm la).mem = s.mem := rfl
@[simp] theorem State.arm_pages (s : State) (la : Word) : (s.arm la).pages = s.pages := rfl
@[simp] theorem State.arm_written (s : State) (la : Word) : (s.arm la).written = s.written := rfl
@[simp] theorem State.arm_inputs (s : State) (la : Word) : (s.arm la).inputs = s.inputs := rfl
@[simp] theorem State.arm_racing (s : State) (la : Word) : (s.arm la).racing = s.racing := rfl
@[simp] theorem State.arm_draws (s : State) (la : Word) : (s.arm la).draws = s.draws := rfl

/-! ### `store` -/

@[simp] theorem State.store_cfg (s : State) (la : Word) (bs : List Byte) : (s.store la bs).cfg = s.cfg := rfl
@[simp] theorem State.store_gpr (s : State) (la : Word) (bs : List Byte) : (s.store la bs).gpr = s.gpr := rfl
@[simp] theorem State.store_rip (s : State) (la : Word) (bs : List Byte) : (s.store la bs).rip = s.rip := rfl
@[simp] theorem State.store_rflags (s : State) (la : Word) (bs : List Byte) : (s.store la bs).rflags = s.rflags := rfl
@[simp] theorem State.store_segs (s : State) (la : Word) (bs : List Byte) : (s.store la bs).segs = s.segs := rfl
@[simp] theorem State.store_ctl (s : State) (la : Word) (bs : List Byte) : (s.store la bs).ctl = s.ctl := rfl
@[simp] theorem State.store_zmm (s : State) (la : Word) (bs : List Byte) : (s.store la bs).zmm = s.zmm := rfl
@[simp] theorem State.store_k (s : State) (la : Word) (bs : List Byte) : (s.store la bs).k = s.k := rfl
@[simp] theorem State.store_msr (s : State) (la : Word) (bs : List Byte) : (s.store la bs).msr = s.msr := rfl
@[simp] theorem State.store_vmx (s : State) (la : Word) (bs : List Byte) : (s.store la bs).vmx = s.vmx := rfl
@[simp] theorem State.store_tsx (s : State) (la : Word) (bs : List Byte) : (s.store la bs).tsx = s.tsx := rfl
@[simp] theorem State.store_tsc (s : State) (la : Word) (bs : List Byte) : (s.store la bs).tsc = s.tsc := rfl
@[simp] theorem State.store_wait (s : State) (la : Word) (bs : List Byte) : (s.store la bs).wait = s.wait := rfl
@[simp] theorem State.store_pending (s : State) (la : Word) (bs : List Byte) : (s.store la bs).pending = s.pending := rfl
@[simp] theorem State.store_keyLock (s : State) (la : Word) (bs : List Byte) : (s.store la bs).keyLock = s.keyLock := rfl
@[simp] theorem State.store_keyTable (s : State) (la : Word) (bs : List Byte) : (s.store la bs).keyTable = s.keyTable := rfl
@[simp] theorem State.store_pages (s : State) (la : Word) (bs : List Byte) : (s.store la bs).pages = s.pages := rfl
@[simp] theorem State.store_inputs (s : State) (la : Word) (bs : List Byte) : (s.store la bs).inputs = s.inputs := rfl
@[simp] theorem State.store_racing (s : State) (la : Word) (bs : List Byte) : (s.store la bs).racing = s.racing := rfl

/-! ### `landStore` -/

@[simp] theorem State.landStore_cfg (s : State) (as : List Nat) (bs : List Byte) : (s.landStore as bs).cfg = s.cfg := rfl
@[simp] theorem State.landStore_gpr (s : State) (as : List Nat) (bs : List Byte) : (s.landStore as bs).gpr = s.gpr := rfl
@[simp] theorem State.landStore_rip (s : State) (as : List Nat) (bs : List Byte) : (s.landStore as bs).rip = s.rip := rfl
@[simp] theorem State.landStore_rflags (s : State) (as : List Nat) (bs : List Byte) : (s.landStore as bs).rflags = s.rflags := rfl
@[simp] theorem State.landStore_segs (s : State) (as : List Nat) (bs : List Byte) : (s.landStore as bs).segs = s.segs := rfl
@[simp] theorem State.landStore_ctl (s : State) (as : List Nat) (bs : List Byte) : (s.landStore as bs).ctl = s.ctl := rfl
@[simp] theorem State.landStore_zmm (s : State) (as : List Nat) (bs : List Byte) : (s.landStore as bs).zmm = s.zmm := rfl
@[simp] theorem State.landStore_k (s : State) (as : List Nat) (bs : List Byte) : (s.landStore as bs).k = s.k := rfl
@[simp] theorem State.landStore_msr (s : State) (as : List Nat) (bs : List Byte) : (s.landStore as bs).msr = s.msr := rfl
@[simp] theorem State.landStore_vmx (s : State) (as : List Nat) (bs : List Byte) : (s.landStore as bs).vmx = s.vmx := rfl
@[simp] theorem State.landStore_tsx (s : State) (as : List Nat) (bs : List Byte) : (s.landStore as bs).tsx = s.tsx := rfl
@[simp] theorem State.landStore_tsc (s : State) (as : List Nat) (bs : List Byte) : (s.landStore as bs).tsc = s.tsc := rfl
@[simp] theorem State.landStore_wait (s : State) (as : List Nat) (bs : List Byte) : (s.landStore as bs).wait = s.wait := rfl
@[simp] theorem State.landStore_pending (s : State) (as : List Nat) (bs : List Byte) : (s.landStore as bs).pending = s.pending := rfl
@[simp] theorem State.landStore_keyLock (s : State) (as : List Nat) (bs : List Byte) : (s.landStore as bs).keyLock = s.keyLock := rfl
@[simp] theorem State.landStore_keyTable (s : State) (as : List Nat) (bs : List Byte) : (s.landStore as bs).keyTable = s.keyTable := rfl
@[simp] theorem State.landStore_pages (s : State) (as : List Nat) (bs : List Byte) : (s.landStore as bs).pages = s.pages := rfl
@[simp] theorem State.landStore_written (s : State) (as : List Nat) (bs : List Byte) : (s.landStore as bs).written = s.written := rfl
@[simp] theorem State.landStore_inputs (s : State) (as : List Nat) (bs : List Byte) : (s.landStore as bs).inputs = s.inputs := rfl
@[simp] theorem State.landStore_racing (s : State) (as : List Nat) (bs : List Byte) : (s.landStore as bs).racing = s.racing := rfl

/-! ### `tick` -/

@[simp] theorem State.tick_cfg (s : State) : (s.tick).cfg = s.cfg := rfl
@[simp] theorem State.tick_gpr (s : State) : (s.tick).gpr = s.gpr := rfl
@[simp] theorem State.tick_rip (s : State) : (s.tick).rip = s.rip := rfl
@[simp] theorem State.tick_rflags (s : State) : (s.tick).rflags = s.rflags := rfl
@[simp] theorem State.tick_segs (s : State) : (s.tick).segs = s.segs := rfl
@[simp] theorem State.tick_ctl (s : State) : (s.tick).ctl = s.ctl := rfl
@[simp] theorem State.tick_zmm (s : State) : (s.tick).zmm = s.zmm := rfl
@[simp] theorem State.tick_k (s : State) : (s.tick).k = s.k := rfl
@[simp] theorem State.tick_msr (s : State) : (s.tick).msr = s.msr := rfl
@[simp] theorem State.tick_vmx (s : State) : (s.tick).vmx = s.vmx := rfl
@[simp] theorem State.tick_tsx (s : State) : (s.tick).tsx = s.tsx := rfl
@[simp] theorem State.tick_monitor (s : State) : (s.tick).monitor = s.monitor := rfl
@[simp] theorem State.tick_wait (s : State) : (s.tick).wait = s.wait := rfl
@[simp] theorem State.tick_pending (s : State) : (s.tick).pending = s.pending := rfl
@[simp] theorem State.tick_keyLock (s : State) : (s.tick).keyLock = s.keyLock := rfl
@[simp] theorem State.tick_keyTable (s : State) : (s.tick).keyTable = s.keyTable := rfl
@[simp] theorem State.tick_mem (s : State) : (s.tick).mem = s.mem := rfl
@[simp] theorem State.tick_pages (s : State) : (s.tick).pages = s.pages := rfl
@[simp] theorem State.tick_written (s : State) : (s.tick).written = s.written := rfl
@[simp] theorem State.tick_inputs (s : State) : (s.tick).inputs = s.inputs := rfl
@[simp] theorem State.tick_racing (s : State) : (s.tick).racing = s.racing := rfl

/-! ### Values written -/

@[simp] theorem State.advance_rip (s : State) (n : Nat) :
    (s.advance n).rip = s.rip + BitVec.ofNat 64 n := rfl

@[simp] theorem State.arm_monitor (s : State) (la : Word) :
    (s.arm la).monitor = { armed := true, addr := la, setBy := .umonitor } := rfl

@[simp] theorem State.landStore_mem (s : State) (as : List Nat) (bs : List Byte) :
    (s.landStore as bs).mem = writeBytes s.mem as bs := rfl

@[simp] theorem State.store_mem (s : State) (la : Word) (bs : List Byte) :
    (s.store la bs).mem = writeBytes s.mem (s.places .write la bs.length) bs := rfl

@[simp] theorem State.store_written (s : State) (la : Word) (bs : List Byte) :
    (s.store la bs).written = s.places .write la bs.length ++ s.written := rfl

theorem State.store_monitor (s : State) (la : Word) (bs : List Byte) :
    (s.store la bs).monitor = s.monitor ∨
      (s.store la bs).monitor = { s.monitor with armed := false } := by
  simp only [State.store, State.landStore]
  split <;> simp

/-! ### Registers -/

theorem State.gprAt_congr {s t : State} (h : t.gpr = s.gpr) (r : BitVec 4) :
    t.gprAt r = s.gprAt r := by simp [State.gprAt, h]

theorem State.zmmAt_congr {s t : State} (h : t.zmm = s.zmm) (r : BitVec 5) :
    t.zmmAt r = s.zmmAt r := by simp [State.zmmAt, h]

theorem State.kAt_congr {s t : State} (h : t.k = s.k) (r : BitVec 3) :
    t.kAt r = s.kAt r := by simp [State.kAt, h]

theorem State.byteAt_congr {s t : State} (h : t.mem = s.mem) (a : Nat) :
    t.byteAt a = s.byteAt a := by simp [State.byteAt, h]

@[simp] theorem State.gprAt_setGpr_self (s : State) (r : BitVec 4) (v : Word) :
    (s.setGpr r v).gprAt r = v := by simp [State.gprAt, State.setGpr]

theorem State.gprAt_setGpr_ne (s : State) {r q : BitVec 4} (v : Word) (h : q ≠ r) :
    (s.setGpr r v).gprAt q = s.gprAt q := by
  have : r.toNat ≠ q.toNat := fun e => h (BitVec.eq_of_toNat_eq e.symm)
  simp [State.gprAt, State.setGpr, this]

@[simp] theorem State.zmmAt_setZmm_self (s : State) (r : BitVec 5) (v : Vec) :
    (s.setZmm r v).zmmAt r = v := by simp [State.zmmAt, State.setZmm]

theorem State.zmmAt_setZmm_ne (s : State) {r q : BitVec 5} (v : Vec) (h : q ≠ r) :
    (s.setZmm r v).zmmAt q = s.zmmAt q := by
  have : r.toNat ≠ q.toNat := fun e => h (BitVec.eq_of_toNat_eq e.symm)
  simp [State.zmmAt, State.setZmm, this]

@[simp] theorem State.kAt_setK_self (s : State) (r : BitVec 3) (v : Mask) :
    (s.setK r v).kAt r = v := by simp [State.kAt, State.setK]

theorem State.kAt_setK_ne (s : State) {r q : BitVec 3} (v : Mask) (h : q ≠ r) :
    (s.setK r v).kAt q = s.kAt q := by
  have : r.toNat ≠ q.toNat := fun e => h (BitVec.eq_of_toNat_eq e.symm)
  simp [State.kAt, State.setK, this]

@[simp] theorem State.zmmAt_setGpr (s : State) (r : BitVec 4) (v : Word) (q : BitVec 5) : (s.setGpr r v).zmmAt q = s.zmmAt q := rfl
@[simp] theorem State.kAt_setGpr (s : State) (r : BitVec 4) (v : Word) (q : BitVec 3) : (s.setGpr r v).kAt q = s.kAt q := rfl
@[simp] theorem State.byteAt_setGpr (s : State) (r : BitVec 4) (v : Word) (q : Nat) : (s.setGpr r v).byteAt q = s.byteAt q := rfl
@[simp] theorem State.gprAt_setZmm (s : State) (r : BitVec 5) (v : Vec) (q : BitVec 4) : (s.setZmm r v).gprAt q = s.gprAt q := rfl
@[simp] theorem State.kAt_setZmm (s : State) (r : BitVec 5) (v : Vec) (q : BitVec 3) : (s.setZmm r v).kAt q = s.kAt q := rfl
@[simp] theorem State.byteAt_setZmm (s : State) (r : BitVec 5) (v : Vec) (q : Nat) : (s.setZmm r v).byteAt q = s.byteAt q := rfl
@[simp] theorem State.gprAt_setK (s : State) (r : BitVec 3) (v : Mask) (q : BitVec 4) : (s.setK r v).gprAt q = s.gprAt q := rfl
@[simp] theorem State.zmmAt_setK (s : State) (r : BitVec 3) (v : Mask) (q : BitVec 5) : (s.setK r v).zmmAt q = s.zmmAt q := rfl
@[simp] theorem State.byteAt_setK (s : State) (r : BitVec 3) (v : Mask) (q : Nat) : (s.setK r v).byteAt q = s.byteAt q := rfl
@[simp] theorem State.gprAt_advance (s : State) (n : Nat) (q : BitVec 4) : (s.advance n).gprAt q = s.gprAt q := rfl
@[simp] theorem State.zmmAt_advance (s : State) (n : Nat) (q : BitVec 5) : (s.advance n).zmmAt q = s.zmmAt q := rfl
@[simp] theorem State.kAt_advance (s : State) (n : Nat) (q : BitVec 3) : (s.advance n).kAt q = s.kAt q := rfl
@[simp] theorem State.byteAt_advance (s : State) (n : Nat) (q : Nat) : (s.advance n).byteAt q = s.byteAt q := rfl
@[simp] theorem State.gprAt_store (s : State) (la : Word) (bs : List Byte) (q : BitVec 4) : (s.store la bs).gprAt q = s.gprAt q := rfl
@[simp] theorem State.zmmAt_store (s : State) (la : Word) (bs : List Byte) (q : BitVec 5) : (s.store la bs).zmmAt q = s.zmmAt q := rfl
@[simp] theorem State.kAt_store (s : State) (la : Word) (bs : List Byte) (q : BitVec 3) : (s.store la bs).kAt q = s.kAt q := rfl
@[simp] theorem State.gprAt_tick (s : State) (q : BitVec 4) : (s.tick).gprAt q = s.gprAt q := rfl
@[simp] theorem State.zmmAt_tick (s : State) (q : BitVec 5) : (s.tick).zmmAt q = s.zmmAt q := rfl
@[simp] theorem State.kAt_tick (s : State) (q : BitVec 3) : (s.tick).kAt q = s.kAt q := rfl
@[simp] theorem State.byteAt_tick (s : State) (q : Nat) : (s.tick).byteAt q = s.byteAt q := rfl

end Sys2Proof.Machine
end

