-- ==== Sys2Proof/Laws/Memory.lean ====
section
/-! SUPPORT. Sparse maps, memory and the key table: reading after writing, and the canonical form. -/

namespace Sys2Proof.Machine

variable {α : Type}

theorem sparseGet_eq_default {d : α} {m : List (Nat × α)} {a : Nat} (h : ∀ c ∈ m, c.1 ≠ a) :
    sparseGet d m a = d := by
  induction m with
  | nil => rfl
  | cons c t ih =>
    have hc : ¬ a = c.1 := fun e => h c (by simp) e.symm
    have ht : ∀ x ∈ t, x.1 ≠ a := fun x hx => h x (by simp [hx])
    simp [sparseGet, hc, ih ht]

variable [DecidableEq α]

/-- Reading any key after writing one, in a map whose keys rise. -/
theorem sparseGet_sparseSet (d : α) {m : List (Nat × α)}
    (h : m.Pairwise (fun x y => x.1 < y.1)) (a : Nat) (v : α) (b : Nat) :
    sparseGet d (sparseSet d m a v) b = if b = a then v else sparseGet d m b := by
  induction m with
  | nil =>
    by_cases hv : v = d <;> by_cases hb : b = a <;> simp [sparseSet, sparseGet, hv, hb]
  | cons c t ih =>
    obtain ⟨k, w⟩ := c
    have hk : ∀ x ∈ t, k < x.1 := by simpa using (List.pairwise_cons.mp h).1
    have ht := (List.pairwise_cons.mp h).2
    have habs : ∀ n, n ≤ k → sparseGet d t n = d := fun n hn =>
      sparseGet_eq_default fun x hx => by have := hk x hx; omega
    by_cases h1 : a < k
    · by_cases hv : v = d
      · by_cases hb : b = a
        · simp [sparseSet, h1, hv, hb, sparseGet, show ¬ a = k by omega, habs a (by omega)]
        · simp [sparseSet, h1, hv, hb]
      · by_cases hb : b = a
        · simp [sparseSet, h1, hv, hb, sparseGet]
        · simp [sparseSet, h1, hv, hb, sparseGet]
    · by_cases h2 : a = k
      · subst h2
        by_cases hv : v = d
        · by_cases hb : b = a
          · simp [sparseSet, hv, hb, habs a (by omega)]
          · simp [sparseSet, hv, hb, sparseGet]
        · by_cases hb : b = a
          · simp [sparseSet, hv, hb, sparseGet]
          · simp [sparseSet, hv, hb, sparseGet]
      · have e : sparseSet d ((k, w) :: t) a v = (k, w) :: sparseSet d t a v := by
          simp [sparseSet, h1, h2]
        rw [e]
        by_cases hb : b = k
        · simp [sparseGet, hb, show ¬ k = a by omega]
        · simp [sparseGet, hb, ih ht]

/-- What a write can list: its own key with its value, or an entry that was there. -/
theorem mem_sparseSet {d : α} {m : List (Nat × α)} {a : Nat} {v : α} {c : Nat × α}
    (h : c ∈ sparseSet d m a v) : c = (a, v) ∧ v ≠ d ∨ c ∈ m := by
  induction m with
  | nil =>
    by_cases hv : v = d
    · simp [sparseSet, hv] at h
    · simp [sparseSet, hv] at h; exact .inl ⟨h, hv⟩
  | cons x t ih =>
    obtain ⟨k, w⟩ := x
    simp only [sparseSet] at h
    split at h
    · split at h
      · exact .inr h
      · rename_i hv
        rcases List.mem_cons.mp h with h | h
        · exact .inl ⟨h, hv⟩
        · exact .inr h
    · split at h
      · split at h
        · exact .inr (List.mem_cons_of_mem _ h)
        · rename_i hv
          rcases List.mem_cons.mp h with h | h
          · exact .inl ⟨h, hv⟩
          · exact .inr (List.mem_cons_of_mem _ h)
      · rcases List.mem_cons.mp h with h | h
        · exact .inr (by simp [h])
        · rcases ih h with h | h
          · exact .inl h
          · exact .inr (List.mem_cons_of_mem _ h)

/-- A write keeps the canonical form. -/
theorem sparseWf_sparseSet {d : α} {m : List (Nat × α)} (h : sparseWf d m) (a : Nat) (v : α) :
    sparseWf d (sparseSet d m a v) := by
  refine ⟨?_, fun c hc => ?_⟩
  · obtain ⟨h, -⟩ := h
    induction m with
    | nil => by_cases hv : v = d <;> simp [sparseSet, hv]
    | cons x t ih =>
      obtain ⟨k, w⟩ := x
      obtain ⟨hk, ht⟩ := List.pairwise_cons.mp h
      simp only [sparseSet]
      split
      · split
        · exact h
        · refine List.pairwise_cons.mpr ⟨fun y hy => ?_, h⟩
          rcases List.mem_cons.mp hy with rfl | hy
          · assumption
          · have := hk y hy; simp only at this ⊢; omega
      · split
        · split
          · exact ht
          · refine List.pairwise_cons.mpr ⟨fun y hy => ?_, ht⟩
            have := hk y hy; simp only at this ⊢; omega
        · refine List.pairwise_cons.mpr ⟨fun y hy => ?_, ih ht⟩
          rcases mem_sparseSet hy with ⟨rfl, -⟩ | hy
          · simp only; omega
          · exact hk y hy
  · rcases mem_sparseSet hc with ⟨rfl, hv⟩ | hc
    · exact hv
    · exact h.2 c hc

/-! ### Stores -/

/-- A store keeps the canonical form of memory. -/
theorem writeBytes_wf {m : List Host.Cell} (h : Memory.wf m) (as : List Nat) (bs : List Byte) :
    Memory.wf (writeBytes m as bs) := by
  induction as generalizing m bs with
  | nil => simpa [writeBytes] using h
  | cons a as ih =>
    cases bs with
    | nil => simpa [writeBytes] using h
    | cons b bs => exact ih (sparseWf_sparseSet h a b) bs

/-- What a store can list: one of its addresses, or an entry that was there. -/
theorem mem_writeBytes {m : List Host.Cell} {as : List Nat} {bs : List Byte} {c : Host.Cell}
    (h : c ∈ writeBytes m as bs) : c.1 ∈ as ∨ c ∈ m := by
  induction as generalizing m bs with
  | nil => simp [writeBytes] at h; exact .inr h
  | cons a as ih =>
    cases bs with
    | nil => simp [writeBytes] at h; exact .inr h
    | cons b bs =>
      rcases ih h with h | h
      · exact .inl (List.mem_cons_of_mem _ h)
      · rcases mem_sparseSet h with ⟨rfl, -⟩ | h
        · exact .inl (by simp)
        · exact .inr h

/-- An address that is not stored to reads as before. -/
theorem sparseGet_writeBytes_out {m : List Host.Cell} (h : Memory.wf m) {as : List Nat}
    (bs : List Byte) {a : Nat} (ha : a ∉ as) :
    sparseGet unlistedByte (writeBytes m as bs) a = sparseGet unlistedByte m a := by
  induction as generalizing m bs with
  | nil => simp [writeBytes]
  | cons x as ih =>
    cases bs with
    | nil => simp [writeBytes]
    | cons b bs =>
      simp only [List.mem_cons, not_or] at ha
      simp only [writeBytes]
      rw [ih (sparseWf_sparseSet h x b) bs ha.2, sparseGet_sparseSet _ h.1, if_neg ha.1]

/-- A place reads as the last byte stored there. -/
theorem sparseGet_writeBytes_in {m : List Host.Cell} (h : Memory.wf m) {as : List Nat}
    {bs : List Byte} {i : Nat} (hi : i < as.length) (hb : i < bs.length)
    (hn : as[i] ∉ as.drop (i + 1)) :
    sparseGet unlistedByte (writeBytes m as bs) as[i] = bs[i] := by
  induction as generalizing m bs i with
  | nil => simp at hi
  | cons x as ih =>
    cases bs with
    | nil => simp at hb
    | cons b bs =>
      simp only [writeBytes]
      cases i with
      | zero =>
        have hx : x ∉ as := by simpa using hn
        simp only [List.getElem_cons_zero]
        rw [sparseGet_writeBytes_out (sparseWf_sparseSet h x b) bs hx, sparseGet_sparseSet _ h.1,
          if_pos rfl]
      | succ i =>
        simp only [List.getElem_cons_succ]
        exact ih (sparseWf_sparseSet h x b) (by simpa using hi) (by simpa using hb) (by simpa using hn)

/-! ### The bytes of an operand -/

@[simp] theorem State.span_length (s : State) (la : Word) (n : Nat) : (s.span la n).length = n := by
  simp [State.span]

theorem State.mem_span {s : State} {la : Word} {n a : Nat} :
    a ∈ s.span la n ↔ ∃ i, i < n ∧ s.byteAddr la i = a := by
  simp [State.span]

theorem State.byteAddr_lt (s : State) (la : Word) (i : Nat) : s.byteAddr la i < 2 ^ 64 := by
  unfold State.byteAddr
  split
  · exact Nat.mod_lt _ (by norm_num)
  · exact lt_trans (Nat.mod_lt _ (by norm_num)) (by norm_num)

/-- Bytes of an operand shorter than 2^32 have addresses of their own. -/
theorem State.byteAddr_inj (s : State) (la : Word) {i j : Nat} (hi : i < 2 ^ 32) (hj : j < 2 ^ 32)
    (h : s.byteAddr la i = s.byteAddr la j) : i = j := by
  unfold State.byteAddr at h
  split at h <;> omega

@[simp] theorem State.places_length (s : State) (acc : Access) (la : Word) (n : Nat) :
    (s.places acc la n).length = n := by simp [State.places]

theorem State.places_getElem (s : State) (acc : Access) (la : Word) (n i : Nat)
    (h : i < (s.places acc la n).length) :
    (s.places acc la n)[i] = s.place acc (s.byteAddr la i) := by simp [State.places, State.span]

theorem State.mem_places {s : State} {acc : Access} {la : Word} {n a : Nat} :
    a ∈ s.places acc la n ↔ ∃ i, i < n ∧ s.place acc (s.byteAddr la i) = a := by
  simp [State.places, State.span]

/-- A place is below 2^64. -/
theorem State.place_lt (s : State) (acc : Access) {a : Nat} (h : a < 2 ^ 64) :
    s.place acc a < 2 ^ 64 := by
  unfold State.place State.translate
  split
  · rename_i h2
    split at h2
    · split at h2
      · cases h2; exact Nat.mod_lt _ (by norm_num)
      · split at h2 <;> cases h2; exact h
    · cases h2; exact h
  · exact h

theorem State.mem_places_lt {s : State} {acc : Access} {la : Word} {n a : Nat}
    (h : a ∈ s.places acc la n) : a < 2 ^ 64 := by
  obtain ⟨i, -, rfl⟩ := State.mem_places.mp h
  exact s.place_lt acc (s.byteAddr_lt la i)

/-- A store: its bytes are at their places (R62). -/
theorem State.stored_store {s : State} (h : Memory.wf s.mem) (la : Word) (bs : List Byte) :
    Stored s (s.store la bs) la bs.length (fun j => bs[j]?.getD 0) := by
  intro j hj last
  have e := s.places_getElem .write la bs.length j (by simpa using hj)
  have := sparseGet_writeBytes_in h (as := s.places .write la bs.length) (bs := bs) (i := j)
    (by simpa using hj) hj (by
      rw [e]
      intro hm
      obtain ⟨k, hk, hk2⟩ := List.mem_iff_getElem.mp hm
      rw [List.getElem_drop, s.places_getElem] at hk2
      simp only [List.length_drop, State.places_length] at hk
      exact last (j + 1 + k) (by omega) (by omega) hk2)
  rw [e] at this
  simpa [hj, State.byteAt] using this

/-- A store leaves every other place. -/
theorem State.byteAt_store_out {s : State} (h : Memory.wf s.mem) (la : Word) (bs : List Byte)
    {a : Nat} (ha : a ∉ s.places .write la bs.length) : (s.store la bs).byteAt a = s.byteAt a :=
  sparseGet_writeBytes_out h bs ha

/-- Where no other agent stores during the instruction, a load finds what memory holds (R71). -/
theorem State.readAt_of_racing {s : State} (h : s.racing = []) (a : Nat) :
    s.readAt a = s.byteAt (s.place .read a) := by
  simp [State.readAt, State.earlier, h]

/-- A load finds what memory holds, or a byte that another agent's store replaced (R71). -/
theorem State.readAt_cases (s : State) (a : Nat) :
    s.readAt a = s.byteAt (s.place .read a) ∨ (s.place .read a, s.readAt a) ∈ s.racing := by
  simp only [State.readAt, List.getD_eq_getElem?_getD]
  generalize hx : (s.earlier (s.place .read a))[Config.tornByte s.draws (s.place .read a)]? = x
  cases x with
  | none => exact .inl rfl
  | some b =>
    have hb := List.mem_of_getElem? hx
    simp only [State.earlier, List.mem_map, List.mem_filter, decide_eq_true_eq] at hb
    obtain ⟨c, ⟨hc, h1⟩, h2⟩ := hb
    exact .inr (by simpa [← h1, ← h2] using hc)

@[simp] theorem numBytes_length (n w : Nat) : (numBytes n w).length = n := by
  induction n generalizing w with
  | zero => rfl
  | succ n ih => simp [numBytes, ih]

theorem numBytes_getElem (n w i : Nat) (h : i < (numBytes n w).length) :
    (numBytes n w)[i] = BitVec.ofNat 8 (w / 256 ^ i) := by
  induction n generalizing w i with
  | zero => simp [numBytes] at h
  | succ n ih =>
    cases i with
    | zero => simp [numBytes]
    | succ i =>
      simp only [numBytes, List.getElem_cons_succ]
      rw [ih, Nat.div_div_eq_div_mul, pow_succ']

@[simp] theorem toBytes_length {w : Nat} (n : Nat) (v : BitVec w) : (toBytes n v).length = n := by
  simp [toBytes]

/-- Byte `i` of a value (R62). -/
theorem toBytes_getElem {w : Nat} (n : Nat) (v : BitVec w) (i : Nat) (h : i < (toBytes n v).length) :
    (toBytes n v)[i] = v.extractLsb' (8 * i) 8 := by
  simp only [toBytes, numBytes_getElem]
  apply BitVec.eq_of_toNat_eq
  simp [BitVec.extractLsb'_toNat, Nat.shiftRight_eq_div_pow, pow_mul]

theorem fromBytes_lt (bs : List Byte) : fromBytes bs < 256 ^ bs.length := by
  induction bs with
  | nil => simp [fromBytes]
  | cons b t ih =>
    have := b.isLt
    simp only [fromBytes, List.length_cons, pow_succ]
    omega

/-- Bit `8 i + k` of the number of a list of bytes is bit `k` of byte `i` (R62). -/
theorem testBit_fromBytes (bs : List Byte) (n : Nat) :
    (fromBytes bs).testBit n = ((bs[n / 8]?).getD 0).getLsbD (n % 8) := by
  induction bs generalizing n with
  | nil => simp [fromBytes]
  | cons b t ih =>
    have hb := b.isLt
    have e : fromBytes (b :: t) = 2 ^ 8 * fromBytes t + b.toNat := by
      simp only [fromBytes]; omega
    rw [e, Nat.testBit_two_pow_mul_add _ (by simpa using hb)]
    split
    · rename_i h
      have h0 : n / 8 = 0 := by omega
      have h1 : n % 8 = n := by omega
      simp [h0, h1, BitVec.getLsbD]
    · rename_i h
      obtain ⟨m, rfl⟩ : ∃ m, n = m + 8 := ⟨n - 8, by omega⟩
      have h0 : (m + 8) / 8 = m / 8 + 1 := by omega
      have h1 : (m + 8) % 8 = m % 8 := by omega
      simp [ih, h0, h1]

/-- A load: its bits are those of the bytes it finds, lowest byte first (R62). -/
theorem State.getLsbD_load (s : State) (la : Word) (n w i : Nat) :
    (s.load la n w).getLsbD i =
      (decide (i < w) && decide (i / 8 < n) && (s.readAt (s.byteAddr la (i / 8))).getLsbD (i % 8)) := by
  simp only [State.load, BitVec.getLsbD_ofNat, testBit_fromBytes]
  by_cases h : i / 8 < n
  · simp [State.span, h]
  · simp [State.span, h]

end Sys2Proof.Machine
end

