-- ==== Sys2Proof/Laws/Outcome.lean ====
section
/-! SUPPORT. Taking a meaning apart: sequences of checks, their results, and what the first checks of a
vector instruction accept. -/

namespace Sys2Proof.Machine

@[simp] theorem finish_next {e : Except Stop State} {t : State} :
    finish e = .next t ↔ e = .ok t := by
  cases e with
  | ok s => simp [finish]
  | error e => cases e <;> simp [finish, Stop.outcome]

@[simp] theorem finish_fault {e : Except Stop State} {f : Fault} :
    finish e = .fault f ↔ e = .error (.fault f) := by
  cases e with
  | ok s => simp [finish]
  | error e => cases e <;> simp [finish, Stop.outcome]

@[simp] theorem stopIf_ok {c : Bool} {e : Stop} {u : Unit} : stopIf c e = .ok u ↔ c = false := by
  cases c <;> simp [stopIf]

@[simp] theorem stopIf_error {c : Bool} {e x : Stop} : stopIf c e = .error x ↔ c = true ∧ e = x := by
  cases c <;> simp [stopIf]

theorem bind_ok {ε α β : Type} {x : Except ε α} {f : α → Except ε β} {b : β} :
    (x >>= f) = .ok b ↔ ∃ a, x = .ok a ∧ f a = .ok b := by
  cases x <;> simp [bind, Except.bind]

theorem bind_error {ε α β : Type} {x : Except ε α} {f : α → Except ε β} {e : ε} :
    (x >>= f) = .error e ↔ x = .error e ∨ ∃ a, x = .ok a ∧ f a = .error e := by
  cases x <;> simp [bind, Except.bind]

@[simp] theorem ok_bind {ε α β : Type} (a : α) (f : α → Except ε β) :
    ((Except.ok a : Except ε α) >>= f) = f a := rfl

@[simp] theorem error_bind {ε α β : Type} (e : ε) (f : α → Except ε β) :
    ((Except.error e : Except ε α) >>= f) = .error e := rfl

@[simp] theorem stopIf_false (e : Stop) : stopIf false e = .ok () := rfl

@[simp] theorem stopIf_true (e : Stop) : stopIf true e = .error e := rfl

/-! ### Memory checks -/

theorem State.checkLinear_ok {s : State} {e : Exc} {r : SegReg} {ea la : Word} {n : Nat} {acc : Access} :
    s.checkLinear e r ea n acc = .ok la ↔ s.segOk r ea n acc = true ∧ s.linear r ea = la := by
  unfold State.checkLinear
  split <;> simp_all

theorem State.checkLinear_pass {s : State} {r : SegReg} {ea : Word} {n : Nat} {acc : Access} (e : Exc)
    (h : s.segOk r ea n acc = true) : s.checkLinear e r ea n acc = .ok (s.linear r ea) := by
  simp [State.checkLinear, h]

theorem State.checkLinear_fail {s : State} {r : SegReg} {ea : Word} {n : Nat} {acc : Access} (e : Exc)
    (h : s.segOk r ea n acc = false) :
    s.checkLinear e r ea n acc = .error (s.raise e (some 0) none) := by
  simp [State.checkLinear, h]

theorem State.checkSegment_ok {s : State} {r : SegReg} {ea la : Word} {n : Nat} {acc : Access} :
    s.checkSegment r ea n acc = .ok la ↔ s.segOk r ea n acc = true ∧ s.linear r ea = la :=
  State.checkLinear_ok

theorem State.checkSegment_pass {s : State} {r : SegReg} {ea : Word} {n : Nat} {acc : Access}
    (h : s.segOk r ea n acc = true) : s.checkSegment r ea n acc = .ok (s.linear r ea) :=
  State.checkLinear_pass _ h

theorem State.checkSegment_fail {s : State} {r : SegReg} {ea : Word} {n : Nat} {acc : Access}
    (h : s.segOk r ea n acc = false) :
    s.checkSegment r ea n acc = .error (s.raise (s.segExc r) (some 0) none) :=
  State.checkLinear_fail _ h

theorem State.checkPages_ok {s : State} {acc : Access} {as : List Nat} {u : Unit} :
    s.checkPages acc as = .ok u ↔ s.pageFault acc as = none := by
  unfold State.checkPages
  split <;> simp_all

theorem State.checkPages_pass {s : State} {acc : Access} {as : List Nat}
    (h : s.pageFault acc as = none) : s.checkPages acc as = .ok () := by
  simp [State.checkPages, h]

theorem State.checkPages_fail {s : State} {acc : Access} {as : List Nat} {a : Nat} {c : BitVec 32}
    (h : s.pageFault acc as = some (a, c)) : s.checkPages acc as = .error (s.pf c a) := by
  simp [State.checkPages, h]

/-- The pieces of an operand pass when each of them does. -/
theorem State.checkPieces_ok {s : State} {r : SegReg} {ea : Word} {acc : Access}
    {ps : List (Nat × Nat)} {u : Unit} :
    s.checkPieces r ea acc ps = .ok u ↔ ∀ p ∈ ps,
      s.segOk r (ea + BitVec.ofNat 64 p.1) p.2 acc = true ∧
      s.pageFault acc (s.span (s.linear r (ea + BitVec.ofNat 64 p.1)) p.2) = none := by
  induction ps with
  | nil => simp [State.checkPieces]
  | cons p t ih =>
    obtain ⟨off, n⟩ := p
    simp only [State.checkPieces, bind_ok, checkSegment_ok, checkPages_ok, List.forall_mem_cons, ih]
    constructor
    · rintro ⟨la, ⟨h1, rfl⟩, _, h2, h3⟩
      exact ⟨⟨h1, h2⟩, h3⟩
    · rintro ⟨⟨h1, h2⟩, h3⟩
      exact ⟨_, ⟨h1, rfl⟩, (), h2, h3⟩

/-! ### Stops -/

theorem State.ud_eq (s : State) : s.ud = .fault (.exception .ud none none) := by
  simp [State.ud, State.raise]

theorem State.nm_eq (s : State) : s.nm = .fault (.exception .nm none none) := by
  simp [State.nm, State.raise]

theorem State.gp_eq (s : State) : s.gp = .fault (.exception .gp s.code0 none) := rfl

theorem State.ac_eq (s : State) : s.ac = .fault (.exception .ac s.code0 none) := rfl

/-- There is no page fault in real-address mode (R74). -/
theorem State.pageFault_real {s : State} (h : s.mode = .real) (acc : Access) (as : List Nat) :
    s.pageFault acc as = none := by
  induction as with
  | nil => rfl
  | cons a t ih =>
    unfold State.pageFault
    split
    · rename_i hf
      unfold State.translate at hf
      split at hf
      · split at hf <;> simp [h] at hf
      · cases hf
    · exact ih

/-- The outcome of translating bytes one of which faults (R74, R313). -/
theorem State.checkPages_fault {s : State} {acc : Access} {as : List Nat} {a : Nat} {c : BitVec 32}
    (h : s.pageFault acc as = some (a, c)) :
    s.checkPages acc as = .error (.fault (.exception .pf (some c) (some (BitVec.ofNat 64 a)))) := by
  have hm : s.mode ≠ .real := fun hm => by simp [State.pageFault_real hm] at h
  simp [State.checkPages_fail h, State.pf, State.raise, hm]

/-- A piece that faults ends the checks of an operand. -/
theorem State.checkPieces_fault {s : State} {r : SegReg} {ea : Word} {off n : Nat} {acc : Access}
    {f : Fault} {ps : List (Nat × Nat)} (h : s.PieceFaults r (ea + BitVec.ofNat 64 off) n acc f) :
    s.checkPieces r ea acc ((off, n) :: ps) = .error (.fault f) := by
  rcases h with ⟨h, rfl⟩ | ⟨h, a, c, hp, rfl⟩
  · simp only [State.checkPieces, checkSegment_fail h, error_bind]
    rfl
  · simp only [State.checkPieces, checkSegment_pass h, checkPages_fault hp, ok_bind, error_bind]

/-- A piece that passes leaves the checks to the pieces after it. -/
theorem State.checkPieces_cons {s : State} {r : SegReg} {ea : Word} {off n : Nat} {acc : Access}
    {ps : List (Nat × Nat)} (h : s.PiecePasses r (ea + BitVec.ofNat 64 off) n acc) :
    s.checkPieces r ea acc ((off, n) :: ps) = s.checkPieces r ea acc ps := by
  simp only [State.checkPieces, checkSegment_pass h.1, checkPages_pass h.2, ok_bind]

/-! ### The first checks of the vector formats -/

theorem State.enterSse_ok {s : State} {p : Pfx} {u : Unit} :
    s.enterSse p [.gfni] = .ok u ↔ s.SseReady p := by
  simp only [State.enterSse, bind_ok, stopIf_ok]
  constructor
  · rintro ⟨_, h1, _, h2, _, h3, h4⟩
    exact ⟨h1, by simpa using h2, by simpa using h3, h4⟩
  · rintro ⟨h1, h2, h3, h4⟩
    exact ⟨(), h1, (), by simpa using h2, (), by simpa using h3, h4⟩

theorem State.enterVex_ok {s : State} {r : VexRow} {vl : VL} {o : VexOps} {u : Unit} :
    s.enterVex r vl o = .ok u ↔ s.VexReady r vl o := by
  simp only [State.enterVex, bind_ok, stopIf_ok, State.noVectorMode]
  constructor
  · rintro ⟨_, h1, _, h2, _, h3, _, h4, _, h5, h6⟩
    simp at h2 h3 h4 h5
    exact ⟨⟨h1, h2.1, h2.2, h3, h4, h5⟩, h6⟩
  · rintro ⟨⟨h1, h2, h3, h4, h5, h6⟩, h7⟩
    exact ⟨(), h1, (), by simp [h2, h3], (), by simp [h4], (), by simpa using h5, (), by simp [h6], h7⟩

theorem State.enterEvex_ok {s : State} {r : EvexRow} {vl : VL} {o : EvexOps Rm} {u : Unit} :
    s.enterEvex r vl o = .ok u ↔ s.EvexReady r vl o := by
  simp only [State.enterEvex, bind_ok, stopIf_ok, State.noVectorMode]
  constructor
  · rintro ⟨_, h1, _, h2, _, h3, _, h4, _, h5, h6⟩
    simp at h2 h4 h5
    exact ⟨⟨h1, h2.1, h2.2, h3, h4, h5⟩, h6⟩
  · rintro ⟨⟨h1, h2, h3, h4, h5, h6⟩, h7⟩
    exact ⟨(), h1, (), by simp [h2, h3], (), h4, (), by simp [h5], (), by simp [h6], h7⟩

/-- Every EVEX row asks for a flag of the EVEX forms. -/
theorem rowFeatures_evex (e : EvexSel) (vl : VL) : (rowFeatures e.row vl).any Feature.isEvex = true := by
  rcases e with e | e | e <;> cases e <;> cases vl <;> rfl

/-- Where such flags count as 1 the registers have the widths of R6. -/
theorem State.widths_of_hasAll {s : State} {fs : List Feature} (h : s.hasAll fs = true)
    (k : fs.any Feature.isEvex = true) : s.cfg.evexWidths = true := by
  obtain ⟨f, hf, he⟩ := List.any_eq_true.mp k
  have := List.all_eq_true.mp h f hf
  simp only [Params.has, he, Bool.and_eq_true, Bool.not_true, Bool.false_or] at this
  exact this.2

/-- An EVEX form that meets no #UD condition runs with MAXVL 512 and MAX_KL 64 (R6). -/
theorem State.EvexLegal.widths {s : State} {e : EvexSel} {vl : VL} {o : EvexOps Rm}
    (h : s.EvexLegal e.row vl o) : s.cfg.maxvl = .v512 ∧ s.cfg.maxKl = 64 := by
  simpa [Params.evexWidths] using s.widths_of_hasAll h.feature (rowFeatures_evex e vl)

end Sys2Proof.Machine
end

