-- ==== Sys2Proof/Laws/Vector.lean ====
section
/-! SUPPORT. Vectors: elements of a packed vector, and what the three kinds of whole vector instructions
do, once each. -/

namespace Sys2Proof.Machine

/-- The bits of a packed vector. -/
theorem getLsbD_pack (w n : Nat) (hw : 0 < w) (f : Nat → BitVec w) (i : Nat) :
    (pack w n f).getLsbD i =
      (decide (i < 512) && decide (i / w < n) && (f (i / w)).getLsbD (i % w)) := by
  induction n with
  | zero => simp [pack]
  | succ n ih =>
    have hd := Nat.div_add_mod i w
    have hm := Nat.mod_lt i hw
    rw [pack, BitVec.getLsbD_or, ih, BitVec.getLsbD_shiftLeft, BitVec.getLsbD_setWidth]
    by_cases h5 : i < 512
    · rcases Nat.lt_trichotomy (i / w) n with h | h | h
      · have : i < w * n := by
          calc i = w * (i / w) + i % w := hd.symm
            _ < w * (i / w) + w := by omega
            _ = w * (i / w + 1) := by ring
            _ ≤ w * n := Nat.mul_le_mul_left _ h
        simp [h5, h, this, show i / w < n + 1 by omega]
      · subst h
        have h1 : w * (i / w) ≤ i := Nat.mul_div_le i w
        have h2 : i - w * (i / w) = i % w := by omega
        have h3 : i % w < 512 := lt_of_le_of_lt (Nat.mod_le _ _) h5
        have h4 : ¬ i < w * (i / w) := by omega
        simp [h5, h2, h3, h4]
      · have h1 : w * n + w ≤ i := by
          calc w * n + w = w * (n + 1) := by ring
            _ ≤ w * (i / w) := Nat.mul_le_mul_left _ h
            _ ≤ i := Nat.mul_div_le i w
        have h2 : (f n).getLsbD (i - w * n) = false := BitVec.getLsbD_of_ge _ _ (by omega)
        simp [h2, show ¬ i / w < n by omega, show ¬ i / w < n + 1 by omega]
    · simp [h5]

/-- An element of a packed vector. -/
theorem elem_pack {w n j : Nat} (f : Nat → BitVec w) (hj : j < n) (h : w * n ≤ 512) :
    elem w (pack w n f) j = f j := by
  apply BitVec.eq_of_getLsbD_eq
  intro i hi
  have hw : 0 < w := by omega
  have h1 : (w * j + i) / w = j := by
    rw [Nat.mul_add_div hw, Nat.div_eq_of_lt hi, Nat.add_zero]
  have h2 : (w * j + i) % w = i := by rw [Nat.mul_add_mod, Nat.mod_eq_of_lt hi]
  have h3 : w * j + i < 512 := by
    have : w * (j + 1) ≤ w * n := Nat.mul_le_mul_left _ hj
    rw [Nat.mul_add, Nat.mul_one] at this
    omega
  rw [elem, BitVec.getLsbD_extractLsb', getLsbD_pack _ _ hw, h1, h2]
  simp [hi, h3, hj]

/-- The bits of a packed vector above its elements are 0. -/
theorem getLsbD_pack_above {w n i : Nat} (f : Nat → BitVec w) (h : w * n ≤ i) :
    (pack w n f).getLsbD i = false := by
  rcases Nat.eq_zero_or_pos w with rfl | hw
  · suffices pack 0 n f = 0 by simp [this]
    induction n with
    | zero => rfl
    | succ n ih => simp [pack, ih (by simp), BitVec.eq_nil (f n)]
  · have : ¬ i / w < n := by
      rw [Nat.div_lt_iff_lt_mul hw, Nat.mul_comm]; omega
    simp [getLsbD_pack _ _ hw, this]

theorem vlElems_mul (vl : VL) {w : Nat} (h : w ∣ 128) : w * vlElems vl w = 8 * vlBytes vl := by
  apply Nat.mul_div_cancel'
  cases vl
  · exact h
  · exact h.trans (by decide)
  · exact h.trans (by decide)

theorem vlBytes_le (vl : VL) : 8 * vlBytes vl ≤ 512 := by cases vl <;> decide

/-- A result under a writemask (R120, R123). -/
theorem State.masked_result (s : State) {w : Nat} (vl : VL) (hw : w ∣ 128) (aaa : BitVec 3) (z : Bool)
    (old : Vec) (f : Nat → BitVec w) :
    MaskedResult w vl aaa z s old (s.masked w (vlElems vl w) aaa z old f) f := by
  have hm := vlElems_mul vl hw
  have hl := vlBytes_le vl
  have h5 : w * vlElems vl w ≤ 512 := by omega
  refine ⟨fun j hj ha => ?_, fun j hj ha hz => ?_, fun j hj ha hz => ?_, fun n hn => ?_⟩
  · simp [State.masked, elem_pack _ hj h5, ha]
  · simp [State.masked, elem_pack _ hj h5, ha, hz]
  · simp [State.masked, elem_pack _ hj h5, ha, hz]
  · exact getLsbD_pack_above _ (by omega)

/-- A vector instruction changes its destination and RIP only. -/
theorem State.writesVector_setZmm (s : State) (r : BitVec 5) (v : Vec) (len : Nat) :
    WritesVector r len s ((s.setZmm r v).advance len) :=
  { frame :=
      { gpr := fun _ _ => rfl
        zmm := fun q hq => by simpa using s.zmmAt_setZmm_ne v (by simpa using hq)
        k := fun _ _ => rfl
        byte := fun _ _ => rfl
        fixed := ⟨rfl, rfl, rfl, rfl, rfl, rfl, rfl, rfl, rfl, rfl⟩ }
    quiet := ⟨⟨rfl, ⟨rfl, rfl⟩, ⟨rfl, rfl⟩, ⟨rfl, rfl⟩⟩, rfl⟩
    rip := rfl }

/-- All that an EVEX form with a vector destination can do when it answers a next state. -/
theorem evexOp_next {r : EvexRow} {vl : VL} {o : EvexOps Rm} {w : Nat}
    {f : Vec → Vec → Vec → Nat → BitVec w} {s t : State} :
    evexOp r vl o w f s = .next t ↔ s.EvexReady r vl o ∧ ∃ src, s.evexSource r vl o = .ok src ∧
      t = (s.setZmm o.reg (s.masked w (vlElems vl w) o.aaa o.z (s.zmmAt o.reg)
        (f (s.zmmAt o.reg) (s.zmmAt o.vvvv) src))).advance (Form.evex r vl o 0).len := by
  simp only [evexOp, finish_next, bind_ok, State.enterEvex_ok, Except.ok.injEq]
  constructor
  · rintro ⟨_, h, src, hs, rfl⟩
    exact ⟨h, src, hs, rfl⟩
  · rintro ⟨h, src, hs, rfl⟩
    exact ⟨(), h, src, hs, rfl⟩

/-- All that a VEX form can do when it answers a next state. -/
theorem vexOp_next {r : VexRow} {l : Bool} {o : VexOps} {w : Nat}
    {f : Vec → Vec → Nat → BitVec w} {s t : State} :
    vexOp r l o w f s = .next t ↔ s.VexReady r (vexLength l) o ∧ ∃ src,
      s.vexSource o.pfx (Form.vex r l o 0).len (vlBytes (vexLength l)) o.rm = .ok src ∧
      t = (s.setZmm (o.reg.setWidth 5) (pack w (vlElems (vexLength l) w)
        (f (s.zmmAt (o.vvvv.setWidth 5)) src))).advance (Form.vex r l o 0).len := by
  simp only [vexOp, finish_next, bind_ok, State.enterVex_ok, Except.ok.injEq]
  constructor
  · rintro ⟨_, h, src, hs, rfl⟩
    exact ⟨h, src, hs, rfl⟩
  · rintro ⟨h, src, hs, rfl⟩
    exact ⟨(), h, src, hs, rfl⟩

/-- All that a legacy-SSE form can do when it answers a next state. -/
theorem sseOp_next {i : Form} {p : Pfx} {reg : BitVec 4} {rm : Rm} {w n : Nat}
    {f : Vec → Vec → Nat → BitVec w} {s t : State} :
    sseOp i p [.gfni] reg rm w n f s = .next t ↔ s.SseReady p ∧ ∃ src,
      s.sseSource p i.len rm = .ok src ∧
      t = (s.setZmm (reg.setWidth 5) (keepUpper (s.zmmAt (reg.setWidth 5))
        (pack w n (f (s.zmmAt (reg.setWidth 5)) src)))).advance i.len := by
  simp only [sseOp, finish_next, bind_ok, State.enterSse_ok, Except.ok.injEq]
  constructor
  · rintro ⟨_, h, src, hs, rfl⟩
    exact ⟨h, src, hs, rfl⟩
  · rintro ⟨h, src, hs, rfl⟩
    exact ⟨(), h, src, hs, rfl⟩

/-- Bits of a vector whose low 128 bits are replaced. -/
theorem getLsbD_keepUpper (old new : Vec) (n : Nat) :
    (keepUpper old new).getLsbD n = if n < 128 then new.getLsbD n else old.getLsbD n := by
  simp only [keepUpper, BitVec.getLsbD_or, BitVec.getLsbD_shiftLeft, BitVec.getLsbD_ushiftRight]
  by_cases h : n < 128
  · simp [h, show n < 512 by omega, show 384 + n < 512 by omega, show ¬ 384 + n < 384 by omega]
  · by_cases h5 : n < 512
    · have : (new <<< 384).getLsbD (384 + n) = false := BitVec.getLsbD_of_ge _ _ (by omega)
      simp [h, h5, show 128 + (n - 128) = n by omega, show ¬ 384 + n < 512 by omega]
    · simp [h, h5, BitVec.getLsbD_of_ge old n (by omega), show ¬ 384 + n < 512 by omega]

end Sys2Proof.Machine
end

