-- ==== Sys2Proof/Laws/Meaning.lean ====
section
/-! SUPPORT. For each shared operation that is a meaning or a part of one: all that it can do when it
answers a next state. The whole vector instructions stand in Laws/Vector.lean. -/

namespace Sys2Proof.Machine

/-! ### VPCOMPRESS, VPEXPAND, VPSHUFBITQMB -/

theorem State.checkPieces_single {s : State} {r : SegReg} {ea : Word} {n : Nat} {acc : Access}
    {u : Unit} : s.checkPieces r ea acc (if n = 0 then [] else [(0, n)]) = .ok u ↔
      n = 0 ∨ s.segOk r ea n acc = true ∧ s.pageFault acc (s.span (s.linear r ea) n) = none := by
  rw [State.checkPieces_ok]
  by_cases h : n = 0 <;> simp [h]

/-- The checks of a memory form that touches only its active elements (R254, R258). -/
theorem State.denseCheck_ok {s : State} {r : EvexRow} {vl : VL} {o : EvexOps Mem} {acc : Access}
    {u : Unit} : s.denseCheck r vl o acc = .ok u ↔ s.touched r vl o.aaa = 0 ∨
      s.segOk (s.segOf o.pfx o.rm) (s.evexAddr r vl o.anyMem o.rm) (s.touched r vl o.aaa) acc = true ∧
      s.pageFault acc (s.span (s.denseAddr r vl o) (s.touched r vl o.aaa)) = none :=
  State.checkPieces_single

theorem compressStore_next {r : EvexRow} {vl : VL} {o : EvexOps Mem} {s t : State} :
    compressStore r vl o s = .next t ↔
      s.EvexReady r vl o.anyMem ∧ s.denseCheck r vl o .write = .ok () ∧
      t = (if (s.denseBytes r vl o).isEmpty then s
        else s.store (s.denseAddr r vl o) (s.denseBytes r vl o)).advance
          (Form.evex r vl o.anyMem 0).len := by
  simp only [compressStore, finish_next, bind_ok, State.enterEvex_ok, Except.ok.injEq]
  constructor
  · rintro ⟨_, h, _, hc, rfl⟩
    exact ⟨h, hc, rfl⟩
  · rintro ⟨h, hc, rfl⟩
    exact ⟨(), h, (), hc, rfl⟩

theorem compressReg_next {r : EvexRow} {vl : VL} {o : EvexOps (BitVec 5)} {s t : State} :
    compressReg r vl o s = .next t ↔ s.EvexReady r vl o.anyReg ∧
      t = (s.setZmm o.rm (pack (8 * r.elem) (vlElems vl (8 * r.elem))
        (s.compressElem (8 * r.elem) (vlElems vl (8 * r.elem)) o.aaa o.z (s.zmmAt o.rm)
          (s.zmmAt o.reg)))).advance (Form.evex r vl o.anyReg 0).len := by
  simp only [compressReg, finish_next, bind_ok, State.enterEvex_ok, Except.ok.injEq]
  constructor
  · rintro ⟨_, h, rfl⟩
    exact ⟨h, rfl⟩
  · rintro ⟨h, rfl⟩
    exact ⟨(), h, rfl⟩

theorem expandLoad_next {r : EvexRow} {vl : VL} {o : EvexOps Mem} {s t : State} :
    expandLoad r vl o s = .next t ↔
      s.EvexReady r vl o.anyMem ∧ s.denseCheck r vl o .read = .ok () ∧
      t = (s.setZmm o.reg (s.expanded (8 * r.elem) (vlElems vl (8 * r.elem)) o.aaa o.z
        (s.zmmAt o.reg) (s.load (s.denseAddr r vl o) (s.touched r vl o.aaa) 512))).advance
          (Form.evex r vl o.anyMem 0).len := by
  simp only [expandLoad, finish_next, bind_ok, State.enterEvex_ok, Except.ok.injEq]
  constructor
  · rintro ⟨_, h, _, hc, rfl⟩
    exact ⟨h, hc, rfl⟩
  · rintro ⟨h, hc, rfl⟩
    exact ⟨(), h, (), hc, rfl⟩

theorem expandReg_next {r : EvexRow} {vl : VL} {o : EvexOps (BitVec 5)} {s t : State} :
    expandReg r vl o s = .next t ↔ s.EvexReady r vl o.anyReg ∧
      t = (s.setZmm o.reg (s.expanded (8 * r.elem) (vlElems vl (8 * r.elem)) o.aaa o.z
        (s.zmmAt o.reg) (s.zmmAt o.rm))).advance (Form.evex r vl o.anyReg 0).len := by
  simp only [expandReg, finish_next, bind_ok, State.enterEvex_ok, Except.ok.injEq]
  constructor
  · rintro ⟨_, h, rfl⟩
    exact ⟨h, rfl⟩
  · rintro ⟨h, rfl⟩
    exact ⟨(), h, rfl⟩

theorem shufbit_next {vl : VL} {o : EvexOps Rm} {s t : State} :
    shufbit vl o s = .next t ↔ s.EvexReady EOp.vpshufbitqmb.row vl o ∧
      ∃ ctrl, s.evexSource EOp.vpshufbitqmb.row vl o = .ok ctrl ∧
      t = (s.setK (low3 o.reg) (packMask (fun j => s.active o.aaa j &&
        shufbitBit (s.zmmAt o.vvvv) ctrl j) (vlElems vl 8))).advance
          (Form.evex EOp.vpshufbitqmb.row vl o 0).len := by
  simp only [shufbit, finish_next, bind_ok, State.enterEvex_ok, Except.ok.injEq]
  constructor
  · rintro ⟨_, h, c, hc, rfl⟩
    exact ⟨h, c, hc, rfl⟩
  · rintro ⟨h, c, hc, rfl⟩
    exact ⟨(), h, c, hc, rfl⟩

/-! ### Direct stores -/

theorem State.enterDirect_ok {s : State} {p : Pfx} {f : Feature} {no66 : Bool} {u : Unit} :
    s.enterDirect p f no66 = .ok u ↔ s.DirectReady p f ∧ (no66 = true → p.has .osize = false) := by
  simp only [State.enterDirect, bind_ok, stopIf_ok]
  constructor
  · rintro ⟨_, h1, _, h2, _, h3, h4⟩
    exact ⟨⟨h1, by simpa using h3, h4⟩, fun h => by simpa [h] using h2⟩
  · rintro ⟨⟨h1, h3, h4⟩, h2⟩
    refine ⟨(), h1, (), ?_, (), by simp [h3], h4⟩
    cases no66 <;> simp_all

theorem movdiri_next {n : Nat} {p : Pfx} {m : Mem} {reg : BitVec 4} {len : Nat} {s t : State} :
    movdiri n p m reg len s = .next t ↔
      s.DirectReady p .movdiri ∧ p.has .osize = false ∧
      ∃ la, s.checkSegment (s.segOf p m) (s.operandAddr p len 1 m) n .write = .ok la ∧
        (s.alignChecked && decide (la.toNat % n ≠ 0)) = false ∧
        s.pageFault .write (s.span la n) = none ∧
        t = (s.store la (toBytes n (s.gprAt reg))).advance len := by
  simp only [movdiri, finish_next, bind_ok, State.enterDirect_ok, stopIf_ok, State.checkPages_ok,
    Except.ok.injEq]
  constructor
  · rintro ⟨_, ⟨h, h6⟩, la, hl, _, ha, _, hp, rfl⟩
    exact ⟨h, h6 trivial, la, hl, ha, hp, rfl⟩
  · rintro ⟨h, h6, la, hl, ha, hp, rfl⟩
    exact ⟨(), ⟨h, fun _ => h6⟩, la, hl, (), ha, (), hp, rfl⟩

theorem execMovdir64b_next {p : Pfx} {m : Mem} {reg : BitVec 4} {s t : State} :
    execMovdir64b p reg m s = .next t ↔
      s.DirectReady p .movdir64b ∧
      ∃ sla, s.checkSegment (s.segOf p m)
          (s.operandAddr p (Instr.movdir64b p reg m).len 1 m) 64 .read = .ok sla ∧
      ∃ dla, s.checkSegment .es (truncA (s.asize p) (s.gprAt reg)) 64 .write = .ok dla ∧
        (truncA (s.asize p) (s.gprAt reg)).toNat % 64 = 0 ∧
        s.pageFault .read (s.span sla 64) = none ∧ s.pageFault .write (s.span dla 64) = none ∧
        t = (s.store dla ((s.span sla 64).map s.readAt)).advance (Instr.movdir64b p reg m).len := by
  simp only [execMovdir64b, finish_next, bind_ok, State.enterDirect_ok, stopIf_ok,
    State.checkPages_ok, Except.ok.injEq, decide_eq_false_iff_not, not_not]
  constructor
  · rintro ⟨_, ⟨h, -⟩, sla, hs, dla, hd, _, ha, _, hp, _, hq, rfl⟩
    exact ⟨h, sla, hs, dla, hd, ha, hp, hq, rfl⟩
  · rintro ⟨h, sla, hs, dla, hd, ha, hp, hq, rfl⟩
    exact ⟨(), ⟨h, nofun⟩, sla, hs, dla, hd, (), ha, (), hp, (), hq, rfl⟩

/-! ### CLDEMOTE and WBNOINVD -/

theorem execCldemote_next {p : Pfx} {m : Mem} {s t : State} :
    execCldemote p m s = .next t ↔ p.has .lock = false ∧
      (s.demoteMayAbort = false ∧ t = s.advance (Instr.cldemote p m).len ∨
        s.demoteMayAbort = true ∧ Config.cldemoteAborts s.draws = false ∧
          t = State.advance { s with draws := s.draws + 1 } (Instr.cldemote p m).len) := by
  cases h : s.demoteMayAbort <;>
    simp [execCldemote, bind_ok, h, eq_comm (a := t)]

theorem execWbnoinvd_next {p : Pfx} {s t : State} :
    execWbnoinvd p s = .next t ↔ p.has .lock = false ∧ s.hasAll [.wbnoinvd] = true ∧
      s.mode ≠ .v86 ∧ s.cpl = 0 ∧ s.inGuest = false ∧ s.inTx = false ∧
      t = State.advance { s with written := [] } (Instr.wbnoinvd p).len := by
  simp only [execWbnoinvd, finish_next, bind_ok, stopIf_ok, Except.ok.injEq]
  constructor
  · rintro ⟨_, h, _, hf, _, hc, _, hv, _, ht, rfl⟩
    simp at hf hc
    exact ⟨h, hf, hc.1, hc.2, hv, ht, rfl⟩
  · rintro ⟨h, hf, hm, hc, hv, ht, rfl⟩
    exact ⟨(), h, (), by simp [hf], (), by simp [hm, hc], (), hv, (), ht, rfl⟩

/-! ### PCONFIG -/

/-- A key structure that passes the checks of its place (R187, R188). -/
theorem State.checkKeyStruct_ok {s : State} {la : Word} :
    s.checkKeyStruct = .ok la ↔ s.segOk .ds s.keyAddr 192 .read = true ∧
      s.linear .ds s.keyAddr = la ∧ la.toNat % 256 = 0 ∧
      s.pageFault .read (s.span la 192) = none := by
  simp only [State.checkKeyStruct, bind_ok, State.checkSegment_ok, stopIf_ok, State.checkPages_ok,
    Except.ok.injEq, decide_eq_false_iff_not, not_not]
  constructor
  · rintro ⟨_, ⟨h, rfl⟩, _, ha, _, hp, rfl⟩
    exact ⟨h, rfl, ha, hp⟩
  · rintro ⟨h, rfl, ha, hp⟩
    exact ⟨_, ⟨h, rfl⟩, (), ha, (), hp, rfl⟩

/-- PCONFIG gets to its structure exactly when the conditions of `PconfigReady` hold (R180, R187). -/
theorem State.enterPconfig_ok {s : State} {p : Pfx} {u : Unit} :
    s.enterPconfig p = .ok u ↔ s.PconfigReady p := by
  have key : (s.inGuest && s.pconfigExits s.eax) = false ∧
      (decide (s.eax ≠ 0) = false) ↔
      (s.inGuest = true → s.vmx.pconfigExiting.getLsbD 0 = false) ∧ s.eax = 0 := by
    by_cases h : s.eax = 0
    · cases hn : s.inGuest <;> simp [h, State.pconfigExits]
    · simp only [ne_eq, h, not_false_eq_true, decide_true, Bool.true_eq_false, and_false]
  simp only [State.enterPconfig, bind_ok, stopIf_ok]
  constructor
  · rintro ⟨_, h1, _, h2, _, h3, _, h4, _, h5, _, h6, _, h7, h8⟩
    obtain ⟨h5, h6⟩ := key.mp ⟨h5, h6⟩
    simp at h1 h2 h3 h7
    exact ⟨h1.1.1.1, h1.1.1.2, h1.1.2, h1.2, h2, h3.1, h3.2,
      fun h => ⟨by simpa [h] using h4, h5 h⟩, h6, ⟨h7.1.1, h7.1.2, h7.2⟩, h8⟩
  · intro h
    obtain ⟨h5, h6⟩ := key.mpr ⟨fun hn => (h.guest hn).2, h.leaf⟩
    refine ⟨(), by simp [h.lock, h.rep, h.repne, h.osize], (), by simp [h.mode], (),
      by simp [h.feature, h.cpl], (), ?_, (), h5, (), h6, (), by simpa [h.active.1, h.active.2.1] using h.active.2.2, h.noTx⟩
    cases hn : s.inGuest
    · rfl
    · simp [(h.guest hn).1]

theorem execPconfig_next {p : Pfx} {s t : State} :
    execPconfig p s = .next t ↔ s.PconfigReady p ∧ ∃ la, s.checkKeyStruct = .ok la ∧
      (reservedBytes (s.keyStruct la)).any (· ≠ 0) = false ∧
      t = ((s.keyProgram (s.keyStruct la)).2.pconfigResult
        (s.keyProgram (s.keyStruct la)).1).advance (Instr.pconfig p).len := by
  simp only [execPconfig, finish_next, bind_ok, State.enterPconfig_ok, stopIf_ok, Except.ok.injEq]
  constructor
  · rintro ⟨_, h, la, hl, _, hr, rfl⟩
    exact ⟨h, la, hl, hr, rfl⟩
  · rintro ⟨h, la, hl, hr, rfl⟩
    exact ⟨(), h, la, hl, (), hr, rfl⟩

/-! ### UMONITOR, TPAUSE, UMWAIT -/

theorem execUmonitor_next {p : Pfx} {rm : Rm} {s t : State} :
    execUmonitor p rm s = .next t ↔
      p.has .lock = false ∧ s.hasAll [.waitpkg] = true ∧
      ∃ r, rm = .reg r ∧ ∃ la,
        s.segOk (monitorSeg p) (truncA (s.asize p) (s.gprAt (r.setWidth 4))) 1 .read = true ∧
        s.linear (monitorSeg p) (truncA (s.asize p) (s.gprAt (r.setWidth 4))) = la ∧
        s.pageFault .read (s.span la 1) = none ∧ s.inTx = false ∧
        t = (s.arm la).advance (Instr.umonitor p rm).len := by
  simp only [execUmonitor, finish_next, bind_ok, stopIf_ok]
  cases rm with
  | mem m => simp
  | reg r =>
    simp only [bind_ok, stopIf_ok, State.checkLinear_ok, State.checkPages_ok, Except.ok.injEq]
    constructor
    · rintro ⟨_, h, _, hf, la, ⟨hs, hl⟩, _, hp, _, ht, rfl⟩
      exact ⟨h, by simpa using hf, r, rfl, la, hs, hl, hp, ht, rfl⟩
    · rintro ⟨h, hf, _, hr, la, hs, hl, hp, ht, rfl⟩
      cases hr
      exact ⟨(), h, (), by simp [hf], la, ⟨hs, hl⟩, (), hp, (), ht, rfl⟩

/-- The control word that TPAUSE and UMWAIT read, and the checks before it (R203, R204). -/
theorem State.enterWait_ok {s : State} {p : Pfx} {rm : Rm} {ctl : BitVec 32} :
    s.enterWait p rm = .ok ctl ↔ ∃ r, rm = .reg r ∧ s.WaitReady p r ∧
      (s.gprAt (r.setWidth 4)).setWidth 32 = ctl := by
  have small : ∀ v : BitVec 32, v >>> 1 = 0 ↔ v.toNat < 2 := by
    intro v
    rw [← BitVec.toNat_inj, BitVec.toNat_ushiftRight, Nat.shiftRight_eq_div_pow]
    change v.toNat / 2 = 0 ↔ v.toNat < 2
    omega
  simp only [State.enterWait, bind_ok, stopIf_ok]
  cases rm with
  | mem m => simp
  | reg r =>
    simp only [bind_ok, stopIf_ok, Except.ok.injEq, decide_eq_false_iff_not, not_not]
    constructor
    · rintro ⟨_, h, _, hf, _, hc, rfl⟩
      exact ⟨r, rfl, ⟨h, by simpa using hf, (small _).mp hc⟩, rfl⟩
    · rintro ⟨_, hr, h, rfl⟩
      cases hr
      exact ⟨(), h.lock, (), by simp [h.feature], (), (small _).mpr h.control, rfl⟩

/-- One look at a wait (R203, R204, R206). -/
theorem State.resumeWait_ok {s t : State} {w : Wait} :
    s.resumeWait w = .ok t ↔ s.pending.contains .reset = false ∧
      (s.keepsWaiting w = true ∧ t = { s with wait := .waiting w, draws := s.draws + 1 } ∨
        s.keepsWaiting w = false ∧ t = s.endWait w) := by
  unfold State.resumeWait
  cases hp : s.pending.contains .reset <;> cases hk : s.keepsWaiting w <;>
    simp only [if_true, if_false, Bool.false_eq_true, Except.ok.injEq, reduceCtorEq, false_and,
      true_and, false_or, or_false, eq_comm]

theorem execTpause_next {p : Pfx} {rm : Rm} {s t : State} :
    execTpause p rm s = .next t ↔ ∃ ctl, s.enterWait p rm = .ok ctl ∧
      s.resumeWait (s.newWait .tpause ctl (Instr.tpause p rm).len) = .ok t := by
  simp only [execTpause, finish_next, bind_ok]

theorem execUmwait_next {p : Pfx} {rm : Rm} {s t : State} :
    execUmwait p rm s = .next t ↔ ∃ ctl, s.enterWait p rm = .ok ctl ∧ s.inTx = false ∧
      s.resumeWait (s.newWait .umwait ctl (Instr.umwait p rm).len) = .ok t := by
  simp only [execUmwait, finish_next, bind_ok, stopIf_ok]
  constructor
  · rintro ⟨ctl, h, _, ht, hr⟩
    exact ⟨ctl, h, ht, hr⟩
  · rintro ⟨ctl, h, ht, hr⟩
    exact ⟨ctl, h, (), ht, hr⟩

/-! ### The step -/

/-- All that a step can do when it answers a next state (R13, R24). -/
theorem step_next {s t : State} :
    step s = .next t ↔
      (∃ w, s.beginStep.wait = .waiting w ∧ s.beginStep.resumeWait w = .ok t) ∨
      (s.beginStep.wait = .running ∧ ∃ i, s.beginStep.fetch = .ok i ∧
        exec i s.beginStep = .next t ∧ s.beginStep.ripInRange i.len = true) := by
  unfold step
  generalize s.beginStep = u
  cases hw : u.wait with
  | waiting w => simp [hw]
  | running =>
    cases hf : u.fetch with
    | error e => cases e <;> simp [hw, hf, Stop.outcome]
    | ok i =>
      cases he : exec i u with
      | next v =>
        by_cases hr : u.ripInRange i.len = true <;> simp [hw, hf, he, hr, State.guardRip]
      | fault f => simp [hw, hf, he, State.guardRip]
      | refused r => simp [hw, hf, he, State.guardRip]

end Sys2Proof.Machine
end

