-- ==== Sys2Proof/Laws/Shape.lean ====
section
/-! SUPPORT. The shape of every instruction's meaning: which shared operation it is. A proof about all
instructions that takes this apart has 16 cases, one per shared operation, and not one per instruction. -/

namespace Sys2Proof.Machine

/-- Which shared operation the meaning of an instruction is. -/
inductive Shape (i : Instr) : Prop
  | sse {r : LegacyRow} {p : Pfx} {reg : BitVec 4} {rm : Rm} {imm : Byte} {f : Vec → Vec → Nat → Byte}
      (form : i.form = .legacy r p reg (some rm) imm)
      (run : ∀ s, exec i s = sseOp i.form p [.gfni] reg rm 8 16 f s)
  | vex {r : VexRow} {l : Bool} {o : VexOps} {w : Nat} {f : Vec → Vec → Nat → BitVec w} {imm : Byte}
      (form : i.form = .vex r l o imm) (run : ∀ s, exec i s = vexOp r l o w f s)
  | evex {r : EvexRow} {vl : VL} {o : EvexOps Rm} {w : Nat} {f : Vec → Vec → Vec → Nat → BitVec w}
      {imm : Byte} (form : i.form = .evex r vl o imm) (run : ∀ s, exec i s = evexOp r vl o w f s)
  | shufbit {vl : VL} {o : EvexOps Rm} (form : i.form = .evex EOp.vpshufbitqmb.row vl o 0)
      (run : ∀ s, exec i s = shufbit vl o s)
  | compressStore {r : EvexRow} {vl : VL} {o : EvexOps Mem}
      (name : ∃ (e : POp) (vl' : VL) (o' : EvexOps Mem),
        (e = .vpcompressb ∨ e = .vpcompressw) ∧ i = e.makeMem vl' o')
      (form : i.form = .evex r vl o.anyMem 0) (run : ∀ s, exec i s = compressStore r vl o s)
  | compressReg {r : EvexRow} {vl : VL} {o : EvexOps (BitVec 5)}
      (form : i.form = .evex r vl o.anyReg 0) (run : ∀ s, exec i s = compressReg r vl o s)
  | expandLoad {r : EvexRow} {vl : VL} {o : EvexOps Mem}
      (form : i.form = .evex r vl o.anyMem 0) (run : ∀ s, exec i s = expandLoad r vl o s)
  | expandReg {r : EvexRow} {vl : VL} {o : EvexOps (BitVec 5)}
      (form : i.form = .evex r vl o.anyReg 0) (run : ∀ s, exec i s = expandReg r vl o s)
  | movdiri {n : Nat} {p : Pfx} {m : Mem} {reg : BitVec 4}
      (name : (n = 4 ∧ i = .movdiri32 p m reg) ∨ (n = 8 ∧ i = .movdiri64 p m reg))
      (run : ∀ s, exec i s = movdiri n p m reg i.len s)
  | movdir64b {p : Pfx} {reg : BitVec 4} {m : Mem} (name : i = .movdir64b p reg m)
  | cldemote {p : Pfx} {m : Mem} (name : i = .cldemote p m)
  | wbnoinvd {p : Pfx} (name : i = .wbnoinvd p)
  | pconfig {p : Pfx} (name : i = .pconfig p)
  | umonitor {p : Pfx} {rm : Rm} (name : i = .umonitor p rm)
  | tpause {p : Pfx} {rm : Rm} (name : i = .tpause p rm)
  | umwait {p : Pfx} {rm : Rm} (name : i = .umwait p rm)

theorem Shape.of_cldemote (p : Pfx) (m : Mem) :
    Shape (.cldemote p m) := .cldemote rfl
theorem Shape.of_gf2p8affineinvqb (p : Pfx) (reg : BitVec 4) (rm : Rm) (imm : Byte) :
    Shape (.gf2p8affineinvqb p reg rm imm) := .sse (imm := imm) rfl fun _ => rfl
theorem Shape.of_gf2p8affineqb (p : Pfx) (reg : BitVec 4) (rm : Rm) (imm : Byte) :
    Shape (.gf2p8affineqb p reg rm imm) := .sse (imm := imm) rfl fun _ => rfl
theorem Shape.of_gf2p8mulb (p : Pfx) (reg : BitVec 4) (rm : Rm) :
    Shape (.gf2p8mulb p reg rm) := .sse (imm := 0) rfl fun _ => rfl
theorem Shape.of_movdiri32 (p : Pfx) (m : Mem) (reg : BitVec 4) :
    Shape (.movdiri32 p m reg) := .movdiri (.inl ⟨rfl, rfl⟩) fun _ => rfl
theorem Shape.of_movdiri64 (p : Pfx) (m : Mem) (reg : BitVec 4) :
    Shape (.movdiri64 p m reg) := .movdiri (.inr ⟨rfl, rfl⟩) fun _ => rfl
theorem Shape.of_movdir64b (p : Pfx) (reg : BitVec 4) (m : Mem) :
    Shape (.movdir64b p reg m) := .movdir64b rfl
theorem Shape.of_pconfig (p : Pfx) :
    Shape (.pconfig p) := .pconfig rfl
theorem Shape.of_tpause (p : Pfx) (rm : Rm) :
    Shape (.tpause p rm) := .tpause rfl
theorem Shape.of_umonitor (p : Pfx) (rm : Rm) :
    Shape (.umonitor p rm) := .umonitor rfl
theorem Shape.of_umwait (p : Pfx) (rm : Rm) :
    Shape (.umwait p rm) := .umwait rfl
theorem Shape.of_wbnoinvd (p : Pfx) :
    Shape (.wbnoinvd p) := .wbnoinvd rfl
theorem Shape.of_vgf2p8affineinvqbVex128 (o : VexOps) (imm : Byte) :
    Shape (.vgf2p8affineinvqbVex128 o imm) :=
    .vex (r := VOp.vgf2p8affineinvqb.row) (f := (affineInvElem imm)) (imm := imm) rfl fun _ => rfl
theorem Shape.of_vgf2p8affineinvqbVex256 (o : VexOps) (imm : Byte) :
    Shape (.vgf2p8affineinvqbVex256 o imm) :=
    .vex (r := VOp.vgf2p8affineinvqb.row) (f := (affineInvElem imm)) (imm := imm) rfl fun _ => rfl
theorem Shape.of_vgf2p8affineqbVex128 (o : VexOps) (imm : Byte) :
    Shape (.vgf2p8affineqbVex128 o imm) :=
    .vex (r := VOp.vgf2p8affineqb.row) (f := (affineElem imm)) (imm := imm) rfl fun _ => rfl
theorem Shape.of_vgf2p8affineqbVex256 (o : VexOps) (imm : Byte) :
    Shape (.vgf2p8affineqbVex256 o imm) :=
    .vex (r := VOp.vgf2p8affineqb.row) (f := (affineElem imm)) (imm := imm) rfl fun _ => rfl
theorem Shape.of_vgf2p8mulbVex128 (o : VexOps) :
    Shape (.vgf2p8mulbVex128 o) :=
    .vex (r := VOp.vgf2p8mulb.row) (f := gfMulElem) (imm := 0) rfl fun _ => rfl
theorem Shape.of_vgf2p8mulbVex256 (o : VexOps) :
    Shape (.vgf2p8mulbVex256 o) :=
    .vex (r := VOp.vgf2p8mulb.row) (f := gfMulElem) (imm := 0) rfl fun _ => rfl
theorem Shape.of_vaesdecVex256 (o : VexOps) :
    Shape (.vaesdecVex256 o) :=
    .vex (r := VOp.vaesdec.row) (f := (laneElem aesDec)) (imm := 0) rfl fun _ => rfl
theorem Shape.of_vaesdeclastVex256 (o : VexOps) :
    Shape (.vaesdeclastVex256 o) :=
    .vex (r := VOp.vaesdeclast.row) (f := (laneElem aesDecLast)) (imm := 0) rfl fun _ => rfl
theorem Shape.of_vaesencVex256 (o : VexOps) :
    Shape (.vaesencVex256 o) :=
    .vex (r := VOp.vaesenc.row) (f := (laneElem aesEnc)) (imm := 0) rfl fun _ => rfl
theorem Shape.of_vaesenclastVex256 (o : VexOps) :
    Shape (.vaesenclastVex256 o) :=
    .vex (r := VOp.vaesenclast.row) (f := (laneElem aesEncLast)) (imm := 0) rfl fun _ => rfl
theorem Shape.of_vpclmulqdqVex256 (o : VexOps) (imm : Byte) :
    Shape (.vpclmulqdqVex256 o imm) :=
    .vex (r := VOp.vpclmulqdq.row) (f := (clmulElem imm)) (imm := imm) rfl fun _ => rfl
theorem Shape.of_vgf2p8affineinvqbEvex128 (o : EvexOps Rm) (imm : Byte) :
    Shape (.vgf2p8affineinvqbEvex128 o imm) :=
    .evex (r := EOp.vgf2p8affineinvqb.row) (f := (fun _ => affineInvElem imm)) (imm := imm) rfl fun _ => rfl
theorem Shape.of_vgf2p8affineinvqbEvex256 (o : EvexOps Rm) (imm : Byte) :
    Shape (.vgf2p8affineinvqbEvex256 o imm) :=
    .evex (r := EOp.vgf2p8affineinvqb.row) (f := (fun _ => affineInvElem imm)) (imm := imm) rfl fun _ => rfl
theorem Shape.of_vgf2p8affineinvqbEvex512 (o : EvexOps Rm) (imm : Byte) :
    Shape (.vgf2p8affineinvqbEvex512 o imm) :=
    .evex (r := EOp.vgf2p8affineinvqb.row) (f := (fun _ => affineInvElem imm)) (imm := imm) rfl fun _ => rfl
theorem Shape.of_vgf2p8affineqbEvex128 (o : EvexOps Rm) (imm : Byte) :
    Shape (.vgf2p8affineqbEvex128 o imm) :=
    .evex (r := EOp.vgf2p8affineqb.row) (f := (fun _ => affineElem imm)) (imm := imm) rfl fun _ => rfl
theorem Shape.of_vgf2p8affineqbEvex256 (o : EvexOps Rm) (imm : Byte) :
    Shape (.vgf2p8affineqbEvex256 o imm) :=
    .evex (r := EOp.vgf2p8affineqb.row) (f := (fun _ => affineElem imm)) (imm := imm) rfl fun _ => rfl
theorem Shape.of_vgf2p8affineqbEvex512 (o : EvexOps Rm) (imm : Byte) :
    Shape (.vgf2p8affineqbEvex512 o imm) :=
    .evex (r := EOp.vgf2p8affineqb.row) (f := (fun _ => affineElem imm)) (imm := imm) rfl fun _ => rfl
theorem Shape.of_vgf2p8mulbEvex128 (o : EvexOps Rm) :
    Shape (.vgf2p8mulbEvex128 o) :=
    .evex (r := EOp.vgf2p8mulb.row) (f := (fun _ => gfMulElem)) (imm := 0) rfl fun _ => rfl
theorem Shape.of_vgf2p8mulbEvex256 (o : EvexOps Rm) :
    Shape (.vgf2p8mulbEvex256 o) :=
    .evex (r := EOp.vgf2p8mulb.row) (f := (fun _ => gfMulElem)) (imm := 0) rfl fun _ => rfl
theorem Shape.of_vgf2p8mulbEvex512 (o : EvexOps Rm) :
    Shape (.vgf2p8mulbEvex512 o) :=
    .evex (r := EOp.vgf2p8mulb.row) (f := (fun _ => gfMulElem)) (imm := 0) rfl fun _ => rfl
theorem Shape.of_vaesdecEvex128 (o : EvexOps Rm) :
    Shape (.vaesdecEvex128 o) :=
    .evex (r := EOp.vaesdec.row) (f := (fun _ => laneElem aesDec)) (imm := 0) rfl fun _ => rfl
theorem Shape.of_vaesdecEvex256 (o : EvexOps Rm) :
    Shape (.vaesdecEvex256 o) :=
    .evex (r := EOp.vaesdec.row) (f := (fun _ => laneElem aesDec)) (imm := 0) rfl fun _ => rfl
theorem Shape.of_vaesdecEvex512 (o : EvexOps Rm) :
    Shape (.vaesdecEvex512 o) :=
    .evex (r := EOp.vaesdec.row) (f := (fun _ => laneElem aesDec)) (imm := 0) rfl fun _ => rfl
theorem Shape.of_vaesdeclastEvex128 (o : EvexOps Rm) :
    Shape (.vaesdeclastEvex128 o) :=
    .evex (r := EOp.vaesdeclast.row) (f := (fun _ => laneElem aesDecLast)) (imm := 0) rfl fun _ => rfl
theorem Shape.of_vaesdeclastEvex256 (o : EvexOps Rm) :
    Shape (.vaesdeclastEvex256 o) :=
    .evex (r := EOp.vaesdeclast.row) (f := (fun _ => laneElem aesDecLast)) (imm := 0) rfl fun _ => rfl
theorem Shape.of_vaesdeclastEvex512 (o : EvexOps Rm) :
    Shape (.vaesdeclastEvex512 o) :=
    .evex (r := EOp.vaesdeclast.row) (f := (fun _ => laneElem aesDecLast)) (imm := 0) rfl fun _ => rfl
theorem Shape.of_vaesencEvex128 (o : EvexOps Rm) :
    Shape (.vaesencEvex128 o) :=
    .evex (r := EOp.vaesenc.row) (f := (fun _ => laneElem aesEnc)) (imm := 0) rfl fun _ => rfl
theorem Shape.of_vaesencEvex256 (o : EvexOps Rm) :
    Shape (.vaesencEvex256 o) :=
    .evex (r := EOp.vaesenc.row) (f := (fun _ => laneElem aesEnc)) (imm := 0) rfl fun _ => rfl
theorem Shape.of_vaesencEvex512 (o : EvexOps Rm) :
    Shape (.vaesencEvex512 o) :=
    .evex (r := EOp.vaesenc.row) (f := (fun _ => laneElem aesEnc)) (imm := 0) rfl fun _ => rfl
theorem Shape.of_vaesenclastEvex128 (o : EvexOps Rm) :
    Shape (.vaesenclastEvex128 o) :=
    .evex (r := EOp.vaesenclast.row) (f := (fun _ => laneElem aesEncLast)) (imm := 0) rfl fun _ => rfl
theorem Shape.of_vaesenclastEvex256 (o : EvexOps Rm) :
    Shape (.vaesenclastEvex256 o) :=
    .evex (r := EOp.vaesenclast.row) (f := (fun _ => laneElem aesEncLast)) (imm := 0) rfl fun _ => rfl
theorem Shape.of_vaesenclastEvex512 (o : EvexOps Rm) :
    Shape (.vaesenclastEvex512 o) :=
    .evex (r := EOp.vaesenclast.row) (f := (fun _ => laneElem aesEncLast)) (imm := 0) rfl fun _ => rfl
theorem Shape.of_vpclmulqdqEvex128 (o : EvexOps Rm) (imm : Byte) :
    Shape (.vpclmulqdqEvex128 o imm) :=
    .evex (r := EOp.vpclmulqdq.row) (f := (fun _ => clmulElem imm)) (imm := imm) rfl fun _ => rfl
theorem Shape.of_vpclmulqdqEvex256 (o : EvexOps Rm) (imm : Byte) :
    Shape (.vpclmulqdqEvex256 o imm) :=
    .evex (r := EOp.vpclmulqdq.row) (f := (fun _ => clmulElem imm)) (imm := imm) rfl fun _ => rfl
theorem Shape.of_vpclmulqdqEvex512 (o : EvexOps Rm) (imm : Byte) :
    Shape (.vpclmulqdqEvex512 o imm) :=
    .evex (r := EOp.vpclmulqdq.row) (f := (fun _ => clmulElem imm)) (imm := imm) rfl fun _ => rfl
theorem Shape.of_vpdpbusd128 (o : EvexOps Rm) :
    Shape (.vpdpbusd128 o) :=
    .evex (r := EOp.vpdpbusd.row) (f := (dotElem busdSum wrap32)) (imm := 0) rfl fun _ => rfl
theorem Shape.of_vpdpbusd256 (o : EvexOps Rm) :
    Shape (.vpdpbusd256 o) :=
    .evex (r := EOp.vpdpbusd.row) (f := (dotElem busdSum wrap32)) (imm := 0) rfl fun _ => rfl
theorem Shape.of_vpdpbusd512 (o : EvexOps Rm) :
    Shape (.vpdpbusd512 o) :=
    .evex (r := EOp.vpdpbusd.row) (f := (dotElem busdSum wrap32)) (imm := 0) rfl fun _ => rfl
theorem Shape.of_vpdpbusds128 (o : EvexOps Rm) :
    Shape (.vpdpbusds128 o) :=
    .evex (r := EOp.vpdpbusds.row) (f := (dotElem busdSum sat32)) (imm := 0) rfl fun _ => rfl
theorem Shape.of_vpdpbusds256 (o : EvexOps Rm) :
    Shape (.vpdpbusds256 o) :=
    .evex (r := EOp.vpdpbusds.row) (f := (dotElem busdSum sat32)) (imm := 0) rfl fun _ => rfl
theorem Shape.of_vpdpbusds512 (o : EvexOps Rm) :
    Shape (.vpdpbusds512 o) :=
    .evex (r := EOp.vpdpbusds.row) (f := (dotElem busdSum sat32)) (imm := 0) rfl fun _ => rfl
theorem Shape.of_vpdpwssd128 (o : EvexOps Rm) :
    Shape (.vpdpwssd128 o) :=
    .evex (r := EOp.vpdpwssd.row) (f := (dotElem wssdSum wrap32)) (imm := 0) rfl fun _ => rfl
theorem Shape.of_vpdpwssd256 (o : EvexOps Rm) :
    Shape (.vpdpwssd256 o) :=
    .evex (r := EOp.vpdpwssd.row) (f := (dotElem wssdSum wrap32)) (imm := 0) rfl fun _ => rfl
theorem Shape.of_vpdpwssd512 (o : EvexOps Rm) :
    Shape (.vpdpwssd512 o) :=
    .evex (r := EOp.vpdpwssd.row) (f := (dotElem wssdSum wrap32)) (imm := 0) rfl fun _ => rfl
theorem Shape.of_vpdpwssds128 (o : EvexOps Rm) :
    Shape (.vpdpwssds128 o) :=
    .evex (r := EOp.vpdpwssds.row) (f := (dotElem wssdSum sat32)) (imm := 0) rfl fun _ => rfl
theorem Shape.of_vpdpwssds256 (o : EvexOps Rm) :
    Shape (.vpdpwssds256 o) :=
    .evex (r := EOp.vpdpwssds.row) (f := (dotElem wssdSum sat32)) (imm := 0) rfl fun _ => rfl
theorem Shape.of_vpdpwssds512 (o : EvexOps Rm) :
    Shape (.vpdpwssds512 o) :=
    .evex (r := EOp.vpdpwssds.row) (f := (dotElem wssdSum sat32)) (imm := 0) rfl fun _ => rfl
theorem Shape.of_vpopcntb128 (o : EvexOps Rm) :
    Shape (.vpopcntb128 o) :=
    .evex (r := EOp.vpopcntb.row) (f := (fun _ _ => popcntElem 8)) (imm := 0) rfl fun _ => rfl
theorem Shape.of_vpopcntb256 (o : EvexOps Rm) :
    Shape (.vpopcntb256 o) :=
    .evex (r := EOp.vpopcntb.row) (f := (fun _ _ => popcntElem 8)) (imm := 0) rfl fun _ => rfl
theorem Shape.of_vpopcntb512 (o : EvexOps Rm) :
    Shape (.vpopcntb512 o) :=
    .evex (r := EOp.vpopcntb.row) (f := (fun _ _ => popcntElem 8)) (imm := 0) rfl fun _ => rfl
theorem Shape.of_vpopcntw128 (o : EvexOps Rm) :
    Shape (.vpopcntw128 o) :=
    .evex (r := EOp.vpopcntw.row) (f := (fun _ _ => popcntElem 16)) (imm := 0) rfl fun _ => rfl
theorem Shape.of_vpopcntw256 (o : EvexOps Rm) :
    Shape (.vpopcntw256 o) :=
    .evex (r := EOp.vpopcntw.row) (f := (fun _ _ => popcntElem 16)) (imm := 0) rfl fun _ => rfl
theorem Shape.of_vpopcntw512 (o : EvexOps Rm) :
    Shape (.vpopcntw512 o) :=
    .evex (r := EOp.vpopcntw.row) (f := (fun _ _ => popcntElem 16)) (imm := 0) rfl fun _ => rfl
theorem Shape.of_vpopcntd128 (o : EvexOps Rm) :
    Shape (.vpopcntd128 o) :=
    .evex (r := EOp.vpopcntd.row) (f := (fun _ _ => popcntElem 32)) (imm := 0) rfl fun _ => rfl
theorem Shape.of_vpopcntd256 (o : EvexOps Rm) :
    Shape (.vpopcntd256 o) :=
    .evex (r := EOp.vpopcntd.row) (f := (fun _ _ => popcntElem 32)) (imm := 0) rfl fun _ => rfl
theorem Shape.of_vpopcntd512 (o : EvexOps Rm) :
    Shape (.vpopcntd512 o) :=
    .evex (r := EOp.vpopcntd.row) (f := (fun _ _ => popcntElem 32)) (imm := 0) rfl fun _ => rfl
theorem Shape.of_vpopcntq128 (o : EvexOps Rm) :
    Shape (.vpopcntq128 o) :=
    .evex (r := EOp.vpopcntq.row) (f := (fun _ _ => popcntElem 64)) (imm := 0) rfl fun _ => rfl
theorem Shape.of_vpopcntq256 (o : EvexOps Rm) :
    Shape (.vpopcntq256 o) :=
    .evex (r := EOp.vpopcntq.row) (f := (fun _ _ => popcntElem 64)) (imm := 0) rfl fun _ => rfl
theorem Shape.of_vpopcntq512 (o : EvexOps Rm) :
    Shape (.vpopcntq512 o) :=
    .evex (r := EOp.vpopcntq.row) (f := (fun _ _ => popcntElem 64)) (imm := 0) rfl fun _ => rfl
theorem Shape.of_vpshldw128 (o : EvexOps Rm) (imm : Byte) :
    Shape (.vpshldw128 o imm) :=
    .evex (r := EOp.vpshldw.row) (f := (fun _ => shldElem 16 imm)) (imm := imm) rfl fun _ => rfl
theorem Shape.of_vpshldw256 (o : EvexOps Rm) (imm : Byte) :
    Shape (.vpshldw256 o imm) :=
    .evex (r := EOp.vpshldw.row) (f := (fun _ => shldElem 16 imm)) (imm := imm) rfl fun _ => rfl
theorem Shape.of_vpshldw512 (o : EvexOps Rm) (imm : Byte) :
    Shape (.vpshldw512 o imm) :=
    .evex (r := EOp.vpshldw.row) (f := (fun _ => shldElem 16 imm)) (imm := imm) rfl fun _ => rfl
theorem Shape.of_vpshldd128 (o : EvexOps Rm) (imm : Byte) :
    Shape (.vpshldd128 o imm) :=
    .evex (r := EOp.vpshldd.row) (f := (fun _ => shldElem 32 imm)) (imm := imm) rfl fun _ => rfl
theorem Shape.of_vpshldd256 (o : EvexOps Rm) (imm : Byte) :
    Shape (.vpshldd256 o imm) :=
    .evex (r := EOp.vpshldd.row) (f := (fun _ => shldElem 32 imm)) (imm := imm) rfl fun _ => rfl
theorem Shape.of_vpshldd512 (o : EvexOps Rm) (imm : Byte) :
    Shape (.vpshldd512 o imm) :=
    .evex (r := EOp.vpshldd.row) (f := (fun _ => shldElem 32 imm)) (imm := imm) rfl fun _ => rfl
theorem Shape.of_vpshldq128 (o : EvexOps Rm) (imm : Byte) :
    Shape (.vpshldq128 o imm) :=
    .evex (r := EOp.vpshldq.row) (f := (fun _ => shldElem 64 imm)) (imm := imm) rfl fun _ => rfl
theorem Shape.of_vpshldq256 (o : EvexOps Rm) (imm : Byte) :
    Shape (.vpshldq256 o imm) :=
    .evex (r := EOp.vpshldq.row) (f := (fun _ => shldElem 64 imm)) (imm := imm) rfl fun _ => rfl
theorem Shape.of_vpshldq512 (o : EvexOps Rm) (imm : Byte) :
    Shape (.vpshldq512 o imm) :=
    .evex (r := EOp.vpshldq.row) (f := (fun _ => shldElem 64 imm)) (imm := imm) rfl fun _ => rfl
theorem Shape.of_vpshldvw128 (o : EvexOps Rm) :
    Shape (.vpshldvw128 o) :=
    .evex (r := EOp.vpshldvw.row) (f := (shldvElem 16)) (imm := 0) rfl fun _ => rfl
theorem Shape.of_vpshldvw256 (o : EvexOps Rm) :
    Shape (.vpshldvw256 o) :=
    .evex (r := EOp.vpshldvw.row) (f := (shldvElem 16)) (imm := 0) rfl fun _ => rfl
theorem Shape.of_vpshldvw512 (o : EvexOps Rm) :
    Shape (.vpshldvw512 o) :=
    .evex (r := EOp.vpshldvw.row) (f := (shldvElem 16)) (imm := 0) rfl fun _ => rfl
theorem Shape.of_vpshldvd128 (o : EvexOps Rm) :
    Shape (.vpshldvd128 o) :=
    .evex (r := EOp.vpshldvd.row) (f := (shldvElem 32)) (imm := 0) rfl fun _ => rfl
theorem Shape.of_vpshldvd256 (o : EvexOps Rm) :
    Shape (.vpshldvd256 o) :=
    .evex (r := EOp.vpshldvd.row) (f := (shldvElem 32)) (imm := 0) rfl fun _ => rfl
theorem Shape.of_vpshldvd512 (o : EvexOps Rm) :
    Shape (.vpshldvd512 o) :=
    .evex (r := EOp.vpshldvd.row) (f := (shldvElem 32)) (imm := 0) rfl fun _ => rfl
theorem Shape.of_vpshldvq128 (o : EvexOps Rm) :
    Shape (.vpshldvq128 o) :=
    .evex (r := EOp.vpshldvq.row) (f := (shldvElem 64)) (imm := 0) rfl fun _ => rfl
theorem Shape.of_vpshldvq256 (o : EvexOps Rm) :
    Shape (.vpshldvq256 o) :=
    .evex (r := EOp.vpshldvq.row) (f := (shldvElem 64)) (imm := 0) rfl fun _ => rfl
theorem Shape.of_vpshldvq512 (o : EvexOps Rm) :
    Shape (.vpshldvq512 o) :=
    .evex (r := EOp.vpshldvq.row) (f := (shldvElem 64)) (imm := 0) rfl fun _ => rfl
theorem Shape.of_vpshrdw128 (o : EvexOps Rm) (imm : Byte) :
    Shape (.vpshrdw128 o imm) :=
    .evex (r := EOp.vpshrdw.row) (f := (fun _ => shrdElem 16 imm)) (imm := imm) rfl fun _ => rfl
theorem Shape.of_vpshrdw256 (o : EvexOps Rm) (imm : Byte) :
    Shape (.vpshrdw256 o imm) :=
    .evex (r := EOp.vpshrdw.row) (f := (fun _ => shrdElem 16 imm)) (imm := imm) rfl fun _ => rfl
theorem Shape.of_vpshrdw512 (o : EvexOps Rm) (imm : Byte) :
    Shape (.vpshrdw512 o imm) :=
    .evex (r := EOp.vpshrdw.row) (f := (fun _ => shrdElem 16 imm)) (imm := imm) rfl fun _ => rfl
theorem Shape.of_vpshrdd128 (o : EvexOps Rm) (imm : Byte) :
    Shape (.vpshrdd128 o imm) :=
    .evex (r := EOp.vpshrdd.row) (f := (fun _ => shrdElem 32 imm)) (imm := imm) rfl fun _ => rfl
theorem Shape.of_vpshrdd256 (o : EvexOps Rm) (imm : Byte) :
    Shape (.vpshrdd256 o imm) :=
    .evex (r := EOp.vpshrdd.row) (f := (fun _ => shrdElem 32 imm)) (imm := imm) rfl fun _ => rfl
theorem Shape.of_vpshrdd512 (o : EvexOps Rm) (imm : Byte) :
    Shape (.vpshrdd512 o imm) :=
    .evex (r := EOp.vpshrdd.row) (f := (fun _ => shrdElem 32 imm)) (imm := imm) rfl fun _ => rfl
theorem Shape.of_vpshrdq128 (o : EvexOps Rm) (imm : Byte) :
    Shape (.vpshrdq128 o imm) :=
    .evex (r := EOp.vpshrdq.row) (f := (fun _ => shrdElem 64 imm)) (imm := imm) rfl fun _ => rfl
theorem Shape.of_vpshrdq256 (o : EvexOps Rm) (imm : Byte) :
    Shape (.vpshrdq256 o imm) :=
    .evex (r := EOp.vpshrdq.row) (f := (fun _ => shrdElem 64 imm)) (imm := imm) rfl fun _ => rfl
theorem Shape.of_vpshrdq512 (o : EvexOps Rm) (imm : Byte) :
    Shape (.vpshrdq512 o imm) :=
    .evex (r := EOp.vpshrdq.row) (f := (fun _ => shrdElem 64 imm)) (imm := imm) rfl fun _ => rfl
theorem Shape.of_vpshrdvw128 (o : EvexOps Rm) :
    Shape (.vpshrdvw128 o) :=
    .evex (r := EOp.vpshrdvw.row) (f := (shrdvElem 16)) (imm := 0) rfl fun _ => rfl
theorem Shape.of_vpshrdvw256 (o : EvexOps Rm) :
    Shape (.vpshrdvw256 o) :=
    .evex (r := EOp.vpshrdvw.row) (f := (shrdvElem 16)) (imm := 0) rfl fun _ => rfl
theorem Shape.of_vpshrdvw512 (o : EvexOps Rm) :
    Shape (.vpshrdvw512 o) :=
    .evex (r := EOp.vpshrdvw.row) (f := (shrdvElem 16)) (imm := 0) rfl fun _ => rfl
theorem Shape.of_vpshrdvd128 (o : EvexOps Rm) :
    Shape (.vpshrdvd128 o) :=
    .evex (r := EOp.vpshrdvd.row) (f := (shrdvElem 32)) (imm := 0) rfl fun _ => rfl
theorem Shape.of_vpshrdvd256 (o : EvexOps Rm) :
    Shape (.vpshrdvd256 o) :=
    .evex (r := EOp.vpshrdvd.row) (f := (shrdvElem 32)) (imm := 0) rfl fun _ => rfl
theorem Shape.of_vpshrdvd512 (o : EvexOps Rm) :
    Shape (.vpshrdvd512 o) :=
    .evex (r := EOp.vpshrdvd.row) (f := (shrdvElem 32)) (imm := 0) rfl fun _ => rfl
theorem Shape.of_vpshrdvq128 (o : EvexOps Rm) :
    Shape (.vpshrdvq128 o) :=
    .evex (r := EOp.vpshrdvq.row) (f := (shrdvElem 64)) (imm := 0) rfl fun _ => rfl
theorem Shape.of_vpshrdvq256 (o : EvexOps Rm) :
    Shape (.vpshrdvq256 o) :=
    .evex (r := EOp.vpshrdvq.row) (f := (shrdvElem 64)) (imm := 0) rfl fun _ => rfl
theorem Shape.of_vpshrdvq512 (o : EvexOps Rm) :
    Shape (.vpshrdvq512 o) :=
    .evex (r := EOp.vpshrdvq.row) (f := (shrdvElem 64)) (imm := 0) rfl fun _ => rfl
theorem Shape.of_vpshufbitqmb128 (o : EvexOps Rm) :
    Shape (.vpshufbitqmb128 o) := .shufbit rfl fun _ => rfl
theorem Shape.of_vpshufbitqmb256 (o : EvexOps Rm) :
    Shape (.vpshufbitqmb256 o) := .shufbit rfl fun _ => rfl
theorem Shape.of_vpshufbitqmb512 (o : EvexOps Rm) :
    Shape (.vpshufbitqmb512 o) := .shufbit rfl fun _ => rfl
theorem Shape.of_vpcompressb128m (o : EvexOps Mem) :
    Shape (.vpcompressb128m o) :=
    .compressStore (r := POp.vpcompressb.memRow) ⟨.vpcompressb, .v128, o, .inl rfl, rfl⟩ rfl fun _ => rfl
theorem Shape.of_vpcompressb128r (o : EvexOps (BitVec 5)) :
    Shape (.vpcompressb128r o) := .compressReg (r := POp.vpcompressb.regRow) rfl fun _ => rfl
theorem Shape.of_vpcompressb256m (o : EvexOps Mem) :
    Shape (.vpcompressb256m o) :=
    .compressStore (r := POp.vpcompressb.memRow) ⟨.vpcompressb, .v256, o, .inl rfl, rfl⟩ rfl fun _ => rfl
theorem Shape.of_vpcompressb256r (o : EvexOps (BitVec 5)) :
    Shape (.vpcompressb256r o) := .compressReg (r := POp.vpcompressb.regRow) rfl fun _ => rfl
theorem Shape.of_vpcompressb512m (o : EvexOps Mem) :
    Shape (.vpcompressb512m o) :=
    .compressStore (r := POp.vpcompressb.memRow) ⟨.vpcompressb, .v512, o, .inl rfl, rfl⟩ rfl fun _ => rfl
theorem Shape.of_vpcompressb512r (o : EvexOps (BitVec 5)) :
    Shape (.vpcompressb512r o) := .compressReg (r := POp.vpcompressb.regRow) rfl fun _ => rfl
theorem Shape.of_vpcompressw128m (o : EvexOps Mem) :
    Shape (.vpcompressw128m o) :=
    .compressStore (r := POp.vpcompressw.memRow) ⟨.vpcompressw, .v128, o, .inr rfl, rfl⟩ rfl fun _ => rfl
theorem Shape.of_vpcompressw128r (o : EvexOps (BitVec 5)) :
    Shape (.vpcompressw128r o) := .compressReg (r := POp.vpcompressw.regRow) rfl fun _ => rfl
theorem Shape.of_vpcompressw256m (o : EvexOps Mem) :
    Shape (.vpcompressw256m o) :=
    .compressStore (r := POp.vpcompressw.memRow) ⟨.vpcompressw, .v256, o, .inr rfl, rfl⟩ rfl fun _ => rfl
theorem Shape.of_vpcompressw256r (o : EvexOps (BitVec 5)) :
    Shape (.vpcompressw256r o) := .compressReg (r := POp.vpcompressw.regRow) rfl fun _ => rfl
theorem Shape.of_vpcompressw512m (o : EvexOps Mem) :
    Shape (.vpcompressw512m o) :=
    .compressStore (r := POp.vpcompressw.memRow) ⟨.vpcompressw, .v512, o, .inr rfl, rfl⟩ rfl fun _ => rfl
theorem Shape.of_vpcompressw512r (o : EvexOps (BitVec 5)) :
    Shape (.vpcompressw512r o) := .compressReg (r := POp.vpcompressw.regRow) rfl fun _ => rfl
theorem Shape.of_vpexpandb128m (o : EvexOps Mem) :
    Shape (.vpexpandb128m o) := .expandLoad (r := POp.vpexpandb.memRow) rfl fun _ => rfl
theorem Shape.of_vpexpandb128r (o : EvexOps (BitVec 5)) :
    Shape (.vpexpandb128r o) := .expandReg (r := POp.vpexpandb.regRow) rfl fun _ => rfl
theorem Shape.of_vpexpandb256m (o : EvexOps Mem) :
    Shape (.vpexpandb256m o) := .expandLoad (r := POp.vpexpandb.memRow) rfl fun _ => rfl
theorem Shape.of_vpexpandb256r (o : EvexOps (BitVec 5)) :
    Shape (.vpexpandb256r o) := .expandReg (r := POp.vpexpandb.regRow) rfl fun _ => rfl
theorem Shape.of_vpexpandb512m (o : EvexOps Mem) :
    Shape (.vpexpandb512m o) := .expandLoad (r := POp.vpexpandb.memRow) rfl fun _ => rfl
theorem Shape.of_vpexpandb512r (o : EvexOps (BitVec 5)) :
    Shape (.vpexpandb512r o) := .expandReg (r := POp.vpexpandb.regRow) rfl fun _ => rfl
theorem Shape.of_vpexpandw128m (o : EvexOps Mem) :
    Shape (.vpexpandw128m o) := .expandLoad (r := POp.vpexpandw.memRow) rfl fun _ => rfl
theorem Shape.of_vpexpandw128r (o : EvexOps (BitVec 5)) :
    Shape (.vpexpandw128r o) := .expandReg (r := POp.vpexpandw.regRow) rfl fun _ => rfl
theorem Shape.of_vpexpandw256m (o : EvexOps Mem) :
    Shape (.vpexpandw256m o) := .expandLoad (r := POp.vpexpandw.memRow) rfl fun _ => rfl
theorem Shape.of_vpexpandw256r (o : EvexOps (BitVec 5)) :
    Shape (.vpexpandw256r o) := .expandReg (r := POp.vpexpandw.regRow) rfl fun _ => rfl
theorem Shape.of_vpexpandw512m (o : EvexOps Mem) :
    Shape (.vpexpandw512m o) := .expandLoad (r := POp.vpexpandw.memRow) rfl fun _ => rfl
theorem Shape.of_vpexpandw512r (o : EvexOps (BitVec 5)) :
    Shape (.vpexpandw512r o) := .expandReg (r := POp.vpexpandw.regRow) rfl fun _ => rfl

/-- Every instruction has a shape. -/
theorem shape (i : Instr) : Shape i :=
  match i with
  | .cldemote p m => .of_cldemote p m
  | .gf2p8affineinvqb p reg rm imm => .of_gf2p8affineinvqb p reg rm imm
  | .gf2p8affineqb p reg rm imm => .of_gf2p8affineqb p reg rm imm
  | .gf2p8mulb p reg rm => .of_gf2p8mulb p reg rm
  | .movdiri32 p m reg => .of_movdiri32 p m reg
  | .movdiri64 p m reg => .of_movdiri64 p m reg
  | .movdir64b p reg m => .of_movdir64b p reg m
  | .pconfig p => .of_pconfig p
  | .tpause p rm => .of_tpause p rm
  | .umonitor p rm => .of_umonitor p rm
  | .umwait p rm => .of_umwait p rm
  | .wbnoinvd p => .of_wbnoinvd p
  | .vgf2p8affineinvqbVex128 o imm => .of_vgf2p8affineinvqbVex128 o imm
  | .vgf2p8affineinvqbVex256 o imm => .of_vgf2p8affineinvqbVex256 o imm
  | .vgf2p8affineqbVex128 o imm => .of_vgf2p8affineqbVex128 o imm
  | .vgf2p8affineqbVex256 o imm => .of_vgf2p8affineqbVex256 o imm
  | .vgf2p8mulbVex128 o => .of_vgf2p8mulbVex128 o
  | .vgf2p8mulbVex256 o => .of_vgf2p8mulbVex256 o
  | .vaesdecVex256 o => .of_vaesdecVex256 o
  | .vaesdeclastVex256 o => .of_vaesdeclastVex256 o
  | .vaesencVex256 o => .of_vaesencVex256 o
  | .vaesenclastVex256 o => .of_vaesenclastVex256 o
  | .vpclmulqdqVex256 o imm => .of_vpclmulqdqVex256 o imm
  | .vgf2p8affineinvqbEvex128 o imm => .of_vgf2p8affineinvqbEvex128 o imm
  | .vgf2p8affineinvqbEvex256 o imm => .of_vgf2p8affineinvqbEvex256 o imm
  | .vgf2p8affineinvqbEvex512 o imm => .of_vgf2p8affineinvqbEvex512 o imm
  | .vgf2p8affineqbEvex128 o imm => .of_vgf2p8affineqbEvex128 o imm
  | .vgf2p8affineqbEvex256 o imm => .of_vgf2p8affineqbEvex256 o imm
  | .vgf2p8affineqbEvex512 o imm => .of_vgf2p8affineqbEvex512 o imm
  | .vgf2p8mulbEvex128 o => .of_vgf2p8mulbEvex128 o
  | .vgf2p8mulbEvex256 o => .of_vgf2p8mulbEvex256 o
  | .vgf2p8mulbEvex512 o => .of_vgf2p8mulbEvex512 o
  | .vaesdecEvex128 o => .of_vaesdecEvex128 o
  | .vaesdecEvex256 o => .of_vaesdecEvex256 o
  | .vaesdecEvex512 o => .of_vaesdecEvex512 o
  | .vaesdeclastEvex128 o => .of_vaesdeclastEvex128 o
  | .vaesdeclastEvex256 o => .of_vaesdeclastEvex256 o
  | .vaesdeclastEvex512 o => .of_vaesdeclastEvex512 o
  | .vaesencEvex128 o => .of_vaesencEvex128 o
  | .vaesencEvex256 o => .of_vaesencEvex256 o
  | .vaesencEvex512 o => .of_vaesencEvex512 o
  | .vaesenclastEvex128 o => .of_vaesenclastEvex128 o
  | .vaesenclastEvex256 o => .of_vaesenclastEvex256 o
  | .vaesenclastEvex512 o => .of_vaesenclastEvex512 o
  | .vpclmulqdqEvex128 o imm => .of_vpclmulqdqEvex128 o imm
  | .vpclmulqdqEvex256 o imm => .of_vpclmulqdqEvex256 o imm
  | .vpclmulqdqEvex512 o imm => .of_vpclmulqdqEvex512 o imm
  | .vpdpbusd128 o => .of_vpdpbusd128 o
  | .vpdpbusd256 o => .of_vpdpbusd256 o
  | .vpdpbusd512 o => .of_vpdpbusd512 o
  | .vpdpbusds128 o => .of_vpdpbusds128 o
  | .vpdpbusds256 o => .of_vpdpbusds256 o
  | .vpdpbusds512 o => .of_vpdpbusds512 o
  | .vpdpwssd128 o => .of_vpdpwssd128 o
  | .vpdpwssd256 o => .of_vpdpwssd256 o
  | .vpdpwssd512 o => .of_vpdpwssd512 o
  | .vpdpwssds128 o => .of_vpdpwssds128 o
  | .vpdpwssds256 o => .of_vpdpwssds256 o
  | .vpdpwssds512 o => .of_vpdpwssds512 o
  | .vpopcntb128 o => .of_vpopcntb128 o
  | .vpopcntb256 o => .of_vpopcntb256 o
  | .vpopcntb512 o => .of_vpopcntb512 o
  | .vpopcntw128 o => .of_vpopcntw128 o
  | .vpopcntw256 o => .of_vpopcntw256 o
  | .vpopcntw512 o => .of_vpopcntw512 o
  | .vpopcntd128 o => .of_vpopcntd128 o
  | .vpopcntd256 o => .of_vpopcntd256 o
  | .vpopcntd512 o => .of_vpopcntd512 o
  | .vpopcntq128 o => .of_vpopcntq128 o
  | .vpopcntq256 o => .of_vpopcntq256 o
  | .vpopcntq512 o => .of_vpopcntq512 o
  | .vpshldw128 o imm => .of_vpshldw128 o imm
  | .vpshldw256 o imm => .of_vpshldw256 o imm
  | .vpshldw512 o imm => .of_vpshldw512 o imm
  | .vpshldd128 o imm => .of_vpshldd128 o imm
  | .vpshldd256 o imm => .of_vpshldd256 o imm
  | .vpshldd512 o imm => .of_vpshldd512 o imm
  | .vpshldq128 o imm => .of_vpshldq128 o imm
  | .vpshldq256 o imm => .of_vpshldq256 o imm
  | .vpshldq512 o imm => .of_vpshldq512 o imm
  | .vpshldvw128 o => .of_vpshldvw128 o
  | .vpshldvw256 o => .of_vpshldvw256 o
  | .vpshldvw512 o => .of_vpshldvw512 o
  | .vpshldvd128 o => .of_vpshldvd128 o
  | .vpshldvd256 o => .of_vpshldvd256 o
  | .vpshldvd512 o => .of_vpshldvd512 o
  | .vpshldvq128 o => .of_vpshldvq128 o
  | .vpshldvq256 o => .of_vpshldvq256 o
  | .vpshldvq512 o => .of_vpshldvq512 o
  | .vpshrdw128 o imm => .of_vpshrdw128 o imm
  | .vpshrdw256 o imm => .of_vpshrdw256 o imm
  | .vpshrdw512 o imm => .of_vpshrdw512 o imm
  | .vpshrdd128 o imm => .of_vpshrdd128 o imm
  | .vpshrdd256 o imm => .of_vpshrdd256 o imm
  | .vpshrdd512 o imm => .of_vpshrdd512 o imm
  | .vpshrdq128 o imm => .of_vpshrdq128 o imm
  | .vpshrdq256 o imm => .of_vpshrdq256 o imm
  | .vpshrdq512 o imm => .of_vpshrdq512 o imm
  | .vpshrdvw128 o => .of_vpshrdvw128 o
  | .vpshrdvw256 o => .of_vpshrdvw256 o
  | .vpshrdvw512 o => .of_vpshrdvw512 o
  | .vpshrdvd128 o => .of_vpshrdvd128 o
  | .vpshrdvd256 o => .of_vpshrdvd256 o
  | .vpshrdvd512 o => .of_vpshrdvd512 o
  | .vpshrdvq128 o => .of_vpshrdvq128 o
  | .vpshrdvq256 o => .of_vpshrdvq256 o
  | .vpshrdvq512 o => .of_vpshrdvq512 o
  | .vpshufbitqmb128 o => .of_vpshufbitqmb128 o
  | .vpshufbitqmb256 o => .of_vpshufbitqmb256 o
  | .vpshufbitqmb512 o => .of_vpshufbitqmb512 o
  | .vpcompressb128m o => .of_vpcompressb128m o
  | .vpcompressb128r o => .of_vpcompressb128r o
  | .vpcompressb256m o => .of_vpcompressb256m o
  | .vpcompressb256r o => .of_vpcompressb256r o
  | .vpcompressb512m o => .of_vpcompressb512m o
  | .vpcompressb512r o => .of_vpcompressb512r o
  | .vpcompressw128m o => .of_vpcompressw128m o
  | .vpcompressw128r o => .of_vpcompressw128r o
  | .vpcompressw256m o => .of_vpcompressw256m o
  | .vpcompressw256r o => .of_vpcompressw256r o
  | .vpcompressw512m o => .of_vpcompressw512m o
  | .vpcompressw512r o => .of_vpcompressw512r o
  | .vpexpandb128m o => .of_vpexpandb128m o
  | .vpexpandb128r o => .of_vpexpandb128r o
  | .vpexpandb256m o => .of_vpexpandb256m o
  | .vpexpandb256r o => .of_vpexpandb256r o
  | .vpexpandb512m o => .of_vpexpandb512m o
  | .vpexpandb512r o => .of_vpexpandb512r o
  | .vpexpandw128m o => .of_vpexpandw128m o
  | .vpexpandw128r o => .of_vpexpandw128r o
  | .vpexpandw256m o => .of_vpexpandw256m o
  | .vpexpandw256r o => .of_vpexpandw256r o
  | .vpexpandw512m o => .of_vpexpandw512m o
  | .vpexpandw512r o => .of_vpexpandw512r o

end Sys2Proof.Machine
end

