-- ==== Sys2Proof/Laws/Effect.lean ====
section
/-! SUPPORT. Every effect that an instruction can have, and what the parts of an effect leave: the status
flags, a store, the end of a wait, the packed elements of VPCOMPRESS and VPEXPAND. -/

namespace Sys2Proof.Machine

/-! ### What an instruction that answers a next state has done -/

/-- The effects of the instructions. -/
inductive Effect (i : Instr) (s t : State) : Prop
  | vector (r : BitVec 5) (v : Vec) (result : t = (s.setZmm r v).advance i.len)
  | mask (r : BitVec 3) (v : Mask) (result : t = (s.setK r v).advance i.len)
  | store (la : Word) (bs : List Byte) (result : t = (s.store la bs).advance i.len)
      (name : (∃ p m r, i = .movdiri32 p m r ∨ i = .movdiri64 p m r ∨ i = .movdir64b p r m) ∨
        (∃ (e : POp) (vl : VL) (o : EvexOps Mem),
          (e = .vpcompressb ∨ e = .vpcompressw) ∧ i = e.makeMem vl o))
  | ripOnly (result : t = s.advance i.len)
  | drawOnly (result : t = State.advance { s with draws := s.draws + 1 } i.len)
  | fence (result : t = State.advance { s with written := [] } i.len)
  | arm (la : Word) (result : t = (s.arm la).advance i.len)
  | key (p : Pfx) (la : Word) (name : i = .pconfig p) (ready : s.PconfigReady p)
      (result : t = ((s.keyProgram (s.keyStruct la)).2.pconfigResult
        (s.keyProgram (s.keyStruct la)).1).advance i.len)
  | wait (w : Wait) (deadline : w.deadline = s.deadline.1) (len : w.len = i.len)
      (name : ∃ p rm, i = .tpause p rm ∨ i = .umwait p rm) (result : s.resumeWait w = .ok t)

theorem Form.vex_len {i : Instr} {r : VexRow} {l : Bool} {o : VexOps} {imm : Byte}
    (h : i.form = .vex r l o imm) : (Form.vex r l o 0).len = i.len := by
  simp only [Instr.len, h]; rfl

theorem Form.evex_len {i : Instr} {r : EvexRow} {vl : VL} {o : EvexOps Rm} {imm : Byte}
    (h : i.form = .evex r vl o imm) : (Form.evex r vl o 0).len = i.len := by
  simp only [Instr.len, h]; rfl

/-- All that an instruction can do when it answers a next state. -/
theorem exec_effect {i : Instr} {s t : State} (h : exec i s = .next t) : Effect i s t := by
  cases shape i with
  | sse f r => rw [r, sseOp_next] at h; obtain ⟨-, _, -, rfl⟩ := h; exact .vector _ _ rfl
  | vex f r =>
    rw [r, vexOp_next, Form.vex_len f] at h; obtain ⟨-, _, -, rfl⟩ := h; exact .vector _ _ rfl
  | evex f r =>
    rw [r, evexOp_next, Form.evex_len f] at h; obtain ⟨-, _, -, rfl⟩ := h; exact .vector _ _ rfl
  | shufbit f r =>
    rw [r, shufbit_next, Form.evex_len f] at h; obtain ⟨-, _, -, rfl⟩ := h; exact .mask _ _ rfl
  | compressReg f r =>
    rw [r, compressReg_next, Form.evex_len f] at h; obtain ⟨-, rfl⟩ := h; exact .vector _ _ rfl
  | expandReg f r =>
    rw [r, expandReg_next, Form.evex_len f] at h; obtain ⟨-, rfl⟩ := h; exact .vector _ _ rfl
  | expandLoad f r =>
    rw [r, expandLoad_next, Form.evex_len f] at h; obtain ⟨-, -, rfl⟩ := h; exact .vector _ _ rfl
  | compressStore n f r =>
    rw [r, compressStore_next, Form.evex_len f] at h
    obtain ⟨-, -, rfl⟩ := h
    split
    · exact .ripOnly rfl
    · exact .store _ _ rfl (.inr n)
  | movdiri n r =>
    rw [r, movdiri_next] at h
    obtain ⟨-, -, _, -, -, -, rfl⟩ := h
    refine .store _ _ rfl (.inl ?_)
    rcases n with ⟨-, h⟩ | ⟨-, h⟩
    · exact ⟨_, _, _, .inl h⟩
    · exact ⟨_, _, _, .inr (.inl h)⟩
  | movdir64b n =>
    subst n
    obtain ⟨-, _, -, _, -, -, -, -, h⟩ := execMovdir64b_next.mp h
    exact .store _ _ h (.inl ⟨_, _, _, .inr (.inr rfl)⟩)
  | cldemote n =>
    subst n
    obtain ⟨-, ⟨-, h⟩ | ⟨-, -, h⟩⟩ := execCldemote_next.mp h
    · exact .ripOnly h
    · exact .drawOnly h
  | wbnoinvd n => subst n; exact .fence (execWbnoinvd_next.mp h).2.2.2.2.2.2
  | pconfig n =>
    subst n; obtain ⟨hr, la, -, -, h⟩ := execPconfig_next.mp h; exact .key _ la rfl hr h
  | umonitor n => subst n; obtain ⟨-, -, _, -, la, -, -, -, -, h⟩ := execUmonitor_next.mp h; exact .arm la h
  | tpause n =>
    subst n; obtain ⟨_, -, h⟩ := execTpause_next.mp h; exact .wait _ rfl rfl ⟨_, _, .inl rfl⟩ h
  | umwait n =>
    subst n; obtain ⟨_, -, -, h⟩ := execUmwait_next.mp h; exact .wait _ rfl rfl ⟨_, _, .inr rfl⟩ h

/-! ### The status flags -/

@[simp] theorem statusOf_writeStatus (r : Word) (f : StatusFlags) : statusOf (writeStatus r f) = f := by
  obtain ⟨a, b, c, d, e, g⟩ := f
  simp only [statusOf, writeStatus, StatusFlags.mk.injEq]
  cases a <;> cases b <;> cases c <;> cases d <;> cases e <;> cases g <;> simp [statusMask, flagAt]

/-- The bits of RFLAGS that are not status flags are kept (R26). -/
theorem getLsbD_writeStatus (r : Word) (f : StatusFlags) {n : Nat}
    (hn : statusMask.getLsbD n = false) : (writeStatus r f).getLsbD n = r.getLsbD n := by
  by_cases h : n < 64
  · have place : ∀ n < 64, statusMask.getLsbD n = false →
        n ≠ 0 ∧ n ≠ 2 ∧ n ≠ 4 ∧ n ≠ 6 ∧ n ≠ 7 ∧ n ≠ 11 := by decide
    have off : ∀ b k, n ≠ k → (flagAt b k).getLsbD n = false := by
      intro b k hk
      simp [flagAt]; omega
    obtain ⟨h0, h2, h4, h6, h7, h11⟩ := place n h hn
    simp only [writeStatus, BitVec.getLsbD_or, BitVec.getLsbD_and, BitVec.getLsbD_not, hn, h]
    simp [off _ _ h0, off _ _ h2, off _ _ h4, off _ _ h6, off _ _ h7, off _ _ h11]
  · rw [BitVec.getLsbD_of_ge _ n (by omega), BitVec.getLsbD_of_ge _ n (by omega)]

/-! ### A store and what it leaves -/

/-- A store changes its bytes, the monitor, the record of stored bytes and RIP only. -/
theorem State.frame_store (s : State) (la : Word) (bs : List Byte) (len : Nat)
    (hw : Memory.wf s.mem) :
    Frame [] [] [] (s.places .write la bs.length) s ((s.store la bs).advance len) :=
  ⟨fun _ _ => rfl, fun _ _ => rfl, fun _ _ => rfl, fun _ ha => s.byteAt_store_out hw la bs ha,
    ⟨rfl, rfl, rfl, rfl, rfl, rfl, rfl, rfl, rfl, rfl⟩⟩

theorem State.storeRest_store (s : State) (la : Word) (bs : List Byte) (len : Nat) :
    StoreRest (s.places .write la bs.length) s ((s.store la bs).advance len) := by
  refine ⟨rfl, ⟨rfl, rfl⟩, ⟨rfl, rfl⟩, ?_, fun a => ?_⟩
  · simp only [StoreMonitor, State.store, State.landStore, State.advance]
    split <;> simp
  · simp [State.store, State.advance]

/-! ### The elements that VPCOMPRESS and VPEXPAND count -/

/-- The element of the packed list at the rank of an active index is that index. -/
theorem filter_range_getElem? {P : Nat → Bool} {j n : Nat} (hj : j < n) (h : P j = true) :
    ((List.range n).filter P)[((List.range j).filter P).length]? = some j := by
  obtain ⟨k, rfl⟩ : ∃ k, n = (j + 1) + k := ⟨n - (j + 1), by omega⟩
  rw [List.range_add, List.filter_append, List.range_succ, List.filter_append]
  simp [h]

/-- The rank of an active index is below the count of all active ones. -/
theorem filter_range_lt {P : Nat → Bool} {j n : Nat} (hj : j < n) (h : P j = true) :
    ((List.range j).filter P).length < ((List.range n).filter P).length := by
  obtain ⟨k, rfl⟩ : ∃ k, n = (j + 1) + k := ⟨n - (j + 1), by omega⟩
  rw [List.range_add, List.filter_append, List.range_succ, List.filter_append]
  simp [h]

theorem filter_range_le (P : Nat → Bool) (n : Nat) : ((List.range n).filter P).length ≤ n := by
  simpa using List.length_filter_le P (List.range n)

@[simp] theorem flatMap_toBytes_length (n w : Nat) (l : List (BitVec w)) :
    (l.flatMap (toBytes n)).length = l.length * n := by
  induction l with
  | nil => simp
  | cons x t ih => simp [ih]; ring

/-- Byte `b` of element `k` in the bytes of a list of elements. -/
theorem flatMap_toBytes_getElem {n w : Nat} (l : List (BitVec w)) (k b : Nat) (hk : k < l.length)
    (hb : b < n) (h : k * n + b < (l.flatMap (toBytes n)).length) :
    (l.flatMap (toBytes n))[k * n + b] = l[k].extractLsb' (8 * b) 8 := by
  induction l generalizing k with
  | nil => simp at hk
  | cons x t ih =>
    simp only [List.flatMap_cons]
    cases k with
    | zero =>
      rw [List.getElem_append_left (by simpa using hb)]
      simp only [Nat.zero_mul, Nat.zero_add, toBytes_getElem, List.getElem_cons_zero]
    | succ k =>
      rw [List.getElem_append_right (by rw [toBytes_length, Nat.add_mul]; omega)]
      have e : (k + 1) * n + b - (toBytes n x).length = k * n + b := by
        rw [toBytes_length, Nat.add_mul]; omega
      simp only [e, List.getElem_cons_succ]
      exact ih k (by simpa using hk) _

/-- A byte of a vector is a byte of one of its elements (R8). -/
theorem elem_byte (n : Nat) (v : Vec) (j b : Nat) (hb : b < n) :
    elem 8 v (j * n + b) = (elem (8 * n) v j).extractLsb' (8 * b) 8 := by
  apply BitVec.eq_of_getLsbD_eq
  intro k hk
  simp only [elem, BitVec.getLsbD_extractLsb', hk, show 8 * b + k < 8 * n by omega, decide_true,
    Bool.true_and]
  congr 1
  ring

end Sys2Proof.Machine
end

