-- ==== Sys2Proof/Laws/Keys.lean ====
section
/-! SUPPORT. The structure of PCONFIG in memory: its fields, its reserved bytes, and the one-hot test of
its algorithm field (R183, R187, R188). -/

namespace Sys2Proof.Machine

@[simp] theorem State.keyStruct_length (s : State) (la : Word) : (s.keyStruct la).length = 192 := by
  simp [State.keyStruct, State.span]

theorem State.keyStruct_getElem (s : State) (la : Word) (i : Nat)
    (h : i < (s.keyStruct la).length) : (s.keyStruct la)[i] = s.readAt (s.byteAddr la i) := by
  simp [State.keyStruct, State.span]

/-- A field of the structure is a load at its offset (R63, R183). -/
theorem State.field_keyStruct (s : State) (la : Word) {off n w : Nat} (h : off + n ≤ 192) :
    field (s.keyStruct la) off n w = s.load (la + BitVec.ofNat 64 off) n w := by
  unfold State.load field State.keyStruct State.span
  congr 2
  apply List.ext_getElem
  · simp; omega
  · intro i h1 h2
    simp only [List.length_map, List.length_range] at h2
    simp only [List.getElem_map, List.getElem_range, List.getElem_take, List.getElem_drop]
    congr 1
    simp only [State.byteAddr, BitVec.toNat_add, BitVec.toNat_ofNat]
    split <;> omega

/-- The reserved bytes of the structure are 5, 6 to 63, 80 to 127 and 144 to 191 (R183, R188). -/
theorem State.reservedBytes_zero (s : State) (la : Word) :
    (reservedBytes (s.keyStruct la)).any (· ≠ 0) = false ↔
      ∀ i, i = 5 ∨ 6 ≤ i ∧ i < 64 ∨ 80 ≤ i ∧ i < 128 ∨ 144 ≤ i ∧ i < 192 →
        s.readAt (s.byteAddr la i) = 0 := by
  have part : ∀ a n, a + n ≤ 192 → ((∀ x ∈ ((s.keyStruct la).drop a).take n, x = 0) ↔
      ∀ i, a ≤ i → i < a + n → s.readAt (s.byteAddr la i) = 0) := by
    intro a n h
    rw [List.forall_mem_iff_forall_getElem]
    simp only [List.getElem_take, List.getElem_drop, List.length_take, List.length_drop,
      State.keyStruct_length, State.keyStruct_getElem]
    constructor
    · intro hz i h1 h2
      have := hz (i - a) (by omega)
      rwa [show a + (i - a) = i by omega] at this
    · intro hz i hi
      exact hz (a + i) (by omega) (by omega)
  rw [List.any_eq_false]
  simp only [reservedBytes, List.mem_append, decide_eq_true_eq, not_not, or_imp, forall_and,
    part 5 59 (by omega), part 80 48 (by omega), part 144 48 (by omega)]
  constructor
  · rintro ⟨⟨h1, h2⟩, h3⟩
    exact ⟨fun i h => h1 i (by omega) (by omega), fun i h => h1 i (by omega) (by omega),
      fun i h => h2 i (by omega) (by omega), fun i h => h3 i (by omega) (by omega)⟩
  · rintro ⟨h1, h2, h3, h4⟩
    refine ⟨⟨fun i a b => ?_, fun i a b => h3 i (by omega)⟩, fun i a b => h4 i (by omega)⟩
    by_cases h : i = 5
    · exact h1 i h
    · exact h2 i (by omega)

/-- NUM_BITS is 1 exactly for the powers of two (R187). -/
theorem numBits_eq_one (v : BitVec 16) :
    numBits v = 1 ↔ ∃ b, b < 16 ∧ v = BitVec.twoPow 16 b := by
  constructor
  · intro h
    obtain ⟨b, hb⟩ := List.length_eq_one_iff.mp h
    have only : ∀ i, i < 16 → (v.getLsbD i = true ↔ i = b) := by
      intro i hi
      have : i ∈ (List.range 16).filter v.getLsbD ↔ i = b := by rw [hb]; simp
      simpa [hi] using this
    have hb2 : b ∈ (List.range 16).filter v.getLsbD := by rw [hb]; simp
    have hb3 : b < 16 := by simp at hb2; omega
    refine ⟨b, hb3, BitVec.eq_of_getLsbD_eq fun i hi => ?_⟩
    rw [BitVec.getLsbD_twoPow]
    have := only i hi
    cases h : v.getLsbD i
    · simp [h] at this; simp; omega
    · simp [h] at this; simp [this]; omega
  · rintro ⟨b, hb, rfl⟩
    revert b
    decide

end Sys2Proof.Machine
end

