-- ==== Sys2Proof/Laws/PerInstr.lean ====
section
/-! SUPPORT. Per instruction: the bytes that `encode` writes are as many as `Instr.len` says (R24, R90). -/

namespace Sys2Proof

theorem Disp.bytes_length (d : Disp) : d.bytes.length = d.len := by cases d <;> rfl

theorem Mem.bytes_length (g : BitVec 3) (m : Mem) : (m.bytes g).length = m.len := by
  cases m <;> simp [Mem.bytes, Mem.len, Disp.bytes_length, bytes16, bytes32] <;> omega

theorem Rm.bytes_length (g : BitVec 3) (o : Rm) : (o.bytes g).length = o.len := by
  cases o <;> simp [Rm.bytes, Rm.len, Mem.bytes_length]

theorem immBytes_length (h : Bool) (i : Byte) : (immBytes h i).length = h.toNat := by
  cases h <;> rfl

theorem Pfx.write_length (p : Pfx) (w r x b : Bool) : (p.write w r x b).length = p.len := by
  cases h : p.rex <;> simp [Pfx.write, Pfx.len, h]

/-- The length of the bytes of every form. -/
theorem Form.bytes_length (f : Form) : f.bytes.length = f.len := by
  cases f with
  | legacy r p g rm i =>
    cases rm <;>
      simp [Form.bytes, Form.len, Pfx.write_length, Rm.bytes_length, immBytes_length] <;> omega
  | vex r l o i =>
    simp [Form.bytes, Form.len, Pfx.write_length, Rm.bytes_length, immBytes_length]; omega
  | evex r vl o i =>
    simp [Form.bytes, Form.len, Pfx.write_length, Rm.bytes_length, immBytes_length]; omega

/-- The bytes of an instruction are as many as its length says. -/
def Laws.EncodedLength.Statement (i : Instr) : Prop := (encode i).length = i.len

theorem Laws.EncodedLength.cldemote (pfx : Pfx) (m : Mem) :
    Statement (.cldemote pfx m) := Form.bytes_length _
theorem Laws.EncodedLength.gf2p8affineinvqb (pfx : Pfx) (reg : BitVec 4) (rm : Rm) (imm : Byte) :
    Statement (.gf2p8affineinvqb pfx reg rm imm) := Form.bytes_length _
theorem Laws.EncodedLength.gf2p8affineqb (pfx : Pfx) (reg : BitVec 4) (rm : Rm) (imm : Byte) :
    Statement (.gf2p8affineqb pfx reg rm imm) := Form.bytes_length _
theorem Laws.EncodedLength.gf2p8mulb (pfx : Pfx) (reg : BitVec 4) (rm : Rm) :
    Statement (.gf2p8mulb pfx reg rm) := Form.bytes_length _
theorem Laws.EncodedLength.movdiri32 (pfx : Pfx) (m : Mem) (reg : BitVec 4) :
    Statement (.movdiri32 pfx m reg) := Form.bytes_length _
theorem Laws.EncodedLength.movdiri64 (pfx : Pfx) (m : Mem) (reg : BitVec 4) :
    Statement (.movdiri64 pfx m reg) := Form.bytes_length _
theorem Laws.EncodedLength.movdir64b (pfx : Pfx) (reg : BitVec 4) (m : Mem) :
    Statement (.movdir64b pfx reg m) := Form.bytes_length _
theorem Laws.EncodedLength.pconfig (pfx : Pfx) :
    Statement (.pconfig pfx) := Form.bytes_length _
theorem Laws.EncodedLength.tpause (pfx : Pfx) (rm : Rm) :
    Statement (.tpause pfx rm) := Form.bytes_length _
theorem Laws.EncodedLength.umonitor (pfx : Pfx) (rm : Rm) :
    Statement (.umonitor pfx rm) := Form.bytes_length _
theorem Laws.EncodedLength.umwait (pfx : Pfx) (rm : Rm) :
    Statement (.umwait pfx rm) := Form.bytes_length _
theorem Laws.EncodedLength.wbnoinvd (pfx : Pfx) :
    Statement (.wbnoinvd pfx) := Form.bytes_length _
theorem Laws.EncodedLength.vgf2p8affineinvqbVex128 (o : VexOps) (imm : Byte) :
    Statement (.vgf2p8affineinvqbVex128 o imm) := Form.bytes_length _
theorem Laws.EncodedLength.vgf2p8affineinvqbVex256 (o : VexOps) (imm : Byte) :
    Statement (.vgf2p8affineinvqbVex256 o imm) := Form.bytes_length _
theorem Laws.EncodedLength.vgf2p8affineqbVex128 (o : VexOps) (imm : Byte) :
    Statement (.vgf2p8affineqbVex128 o imm) := Form.bytes_length _
theorem Laws.EncodedLength.vgf2p8affineqbVex256 (o : VexOps) (imm : Byte) :
    Statement (.vgf2p8affineqbVex256 o imm) := Form.bytes_length _
theorem Laws.EncodedLength.vgf2p8mulbVex128 (o : VexOps) :
    Statement (.vgf2p8mulbVex128 o) := Form.bytes_length _
theorem Laws.EncodedLength.vgf2p8mulbVex256 (o : VexOps) :
    Statement (.vgf2p8mulbVex256 o) := Form.bytes_length _
theorem Laws.EncodedLength.vaesdecVex256 (o : VexOps) :
    Statement (.vaesdecVex256 o) := Form.bytes_length _
theorem Laws.EncodedLength.vaesdeclastVex256 (o : VexOps) :
    Statement (.vaesdeclastVex256 o) := Form.bytes_length _
theorem Laws.EncodedLength.vaesencVex256 (o : VexOps) :
    Statement (.vaesencVex256 o) := Form.bytes_length _
theorem Laws.EncodedLength.vaesenclastVex256 (o : VexOps) :
    Statement (.vaesenclastVex256 o) := Form.bytes_length _
theorem Laws.EncodedLength.vpclmulqdqVex256 (o : VexOps) (imm : Byte) :
    Statement (.vpclmulqdqVex256 o imm) := Form.bytes_length _
theorem Laws.EncodedLength.vgf2p8affineinvqbEvex128 (o : EvexOps Rm) (imm : Byte) :
    Statement (.vgf2p8affineinvqbEvex128 o imm) := Form.bytes_length _
theorem Laws.EncodedLength.vgf2p8affineinvqbEvex256 (o : EvexOps Rm) (imm : Byte) :
    Statement (.vgf2p8affineinvqbEvex256 o imm) := Form.bytes_length _
theorem Laws.EncodedLength.vgf2p8affineinvqbEvex512 (o : EvexOps Rm) (imm : Byte) :
    Statement (.vgf2p8affineinvqbEvex512 o imm) := Form.bytes_length _
theorem Laws.EncodedLength.vgf2p8affineqbEvex128 (o : EvexOps Rm) (imm : Byte) :
    Statement (.vgf2p8affineqbEvex128 o imm) := Form.bytes_length _
theorem Laws.EncodedLength.vgf2p8affineqbEvex256 (o : EvexOps Rm) (imm : Byte) :
    Statement (.vgf2p8affineqbEvex256 o imm) := Form.bytes_length _
theorem Laws.EncodedLength.vgf2p8affineqbEvex512 (o : EvexOps Rm) (imm : Byte) :
    Statement (.vgf2p8affineqbEvex512 o imm) := Form.bytes_length _
theorem Laws.EncodedLength.vgf2p8mulbEvex128 (o : EvexOps Rm) :
    Statement (.vgf2p8mulbEvex128 o) := Form.bytes_length _
theorem Laws.EncodedLength.vgf2p8mulbEvex256 (o : EvexOps Rm) :
    Statement (.vgf2p8mulbEvex256 o) := Form.bytes_length _
theorem Laws.EncodedLength.vgf2p8mulbEvex512 (o : EvexOps Rm) :
    Statement (.vgf2p8mulbEvex512 o) := Form.bytes_length _
theorem Laws.EncodedLength.vaesdecEvex128 (o : EvexOps Rm) :
    Statement (.vaesdecEvex128 o) := Form.bytes_length _
theorem Laws.EncodedLength.vaesdecEvex256 (o : EvexOps Rm) :
    Statement (.vaesdecEvex256 o) := Form.bytes_length _
theorem Laws.EncodedLength.vaesdecEvex512 (o : EvexOps Rm) :
    Statement (.vaesdecEvex512 o) := Form.bytes_length _
theorem Laws.EncodedLength.vaesdeclastEvex128 (o : EvexOps Rm) :
    Statement (.vaesdeclastEvex128 o) := Form.bytes_length _
theorem Laws.EncodedLength.vaesdeclastEvex256 (o : EvexOps Rm) :
    Statement (.vaesdeclastEvex256 o) := Form.bytes_length _
theorem Laws.EncodedLength.vaesdeclastEvex512 (o : EvexOps Rm) :
    Statement (.vaesdeclastEvex512 o) := Form.bytes_length _
theorem Laws.EncodedLength.vaesencEvex128 (o : EvexOps Rm) :
    Statement (.vaesencEvex128 o) := Form.bytes_length _
theorem Laws.EncodedLength.vaesencEvex256 (o : EvexOps Rm) :
    Statement (.vaesencEvex256 o) := Form.bytes_length _
theorem Laws.EncodedLength.vaesencEvex512 (o : EvexOps Rm) :
    Statement (.vaesencEvex512 o) := Form.bytes_length _
theorem Laws.EncodedLength.vaesenclastEvex128 (o : EvexOps Rm) :
    Statement (.vaesenclastEvex128 o) := Form.bytes_length _
theorem Laws.EncodedLength.vaesenclastEvex256 (o : EvexOps Rm) :
    Statement (.vaesenclastEvex256 o) := Form.bytes_length _
theorem Laws.EncodedLength.vaesenclastEvex512 (o : EvexOps Rm) :
    Statement (.vaesenclastEvex512 o) := Form.bytes_length _
theorem Laws.EncodedLength.vpclmulqdqEvex128 (o : EvexOps Rm) (imm : Byte) :
    Statement (.vpclmulqdqEvex128 o imm) := Form.bytes_length _
theorem Laws.EncodedLength.vpclmulqdqEvex256 (o : EvexOps Rm) (imm : Byte) :
    Statement (.vpclmulqdqEvex256 o imm) := Form.bytes_length _
theorem Laws.EncodedLength.vpclmulqdqEvex512 (o : EvexOps Rm) (imm : Byte) :
    Statement (.vpclmulqdqEvex512 o imm) := Form.bytes_length _
theorem Laws.EncodedLength.vpdpbusd128 (o : EvexOps Rm) :
    Statement (.vpdpbusd128 o) := Form.bytes_length _
theorem Laws.EncodedLength.vpdpbusd256 (o : EvexOps Rm) :
    Statement (.vpdpbusd256 o) := Form.bytes_length _
theorem Laws.EncodedLength.vpdpbusd512 (o : EvexOps Rm) :
    Statement (.vpdpbusd512 o) := Form.bytes_length _
theorem Laws.EncodedLength.vpdpbusds128 (o : EvexOps Rm) :
    Statement (.vpdpbusds128 o) := Form.bytes_length _
theorem Laws.EncodedLength.vpdpbusds256 (o : EvexOps Rm) :
    Statement (.vpdpbusds256 o) := Form.bytes_length _
theorem Laws.EncodedLength.vpdpbusds512 (o : EvexOps Rm) :
    Statement (.vpdpbusds512 o) := Form.bytes_length _
theorem Laws.EncodedLength.vpdpwssd128 (o : EvexOps Rm) :
    Statement (.vpdpwssd128 o) := Form.bytes_length _
theorem Laws.EncodedLength.vpdpwssd256 (o : EvexOps Rm) :
    Statement (.vpdpwssd256 o) := Form.bytes_length _
theorem Laws.EncodedLength.vpdpwssd512 (o : EvexOps Rm) :
    Statement (.vpdpwssd512 o) := Form.bytes_length _
theorem Laws.EncodedLength.vpdpwssds128 (o : EvexOps Rm) :
    Statement (.vpdpwssds128 o) := Form.bytes_length _
theorem Laws.EncodedLength.vpdpwssds256 (o : EvexOps Rm) :
    Statement (.vpdpwssds256 o) := Form.bytes_length _
theorem Laws.EncodedLength.vpdpwssds512 (o : EvexOps Rm) :
    Statement (.vpdpwssds512 o) := Form.bytes_length _
theorem Laws.EncodedLength.vpopcntb128 (o : EvexOps Rm) :
    Statement (.vpopcntb128 o) := Form.bytes_length _
theorem Laws.EncodedLength.vpopcntb256 (o : EvexOps Rm) :
    Statement (.vpopcntb256 o) := Form.bytes_length _
theorem Laws.EncodedLength.vpopcntb512 (o : EvexOps Rm) :
    Statement (.vpopcntb512 o) := Form.bytes_length _
theorem Laws.EncodedLength.vpopcntw128 (o : EvexOps Rm) :
    Statement (.vpopcntw128 o) := Form.bytes_length _
theorem Laws.EncodedLength.vpopcntw256 (o : EvexOps Rm) :
    Statement (.vpopcntw256 o) := Form.bytes_length _
theorem Laws.EncodedLength.vpopcntw512 (o : EvexOps Rm) :
    Statement (.vpopcntw512 o) := Form.bytes_length _
theorem Laws.EncodedLength.vpopcntd128 (o : EvexOps Rm) :
    Statement (.vpopcntd128 o) := Form.bytes_length _
theorem Laws.EncodedLength.vpopcntd256 (o : EvexOps Rm) :
    Statement (.vpopcntd256 o) := Form.bytes_length _
theorem Laws.EncodedLength.vpopcntd512 (o : EvexOps Rm) :
    Statement (.vpopcntd512 o) := Form.bytes_length _
theorem Laws.EncodedLength.vpopcntq128 (o : EvexOps Rm) :
    Statement (.vpopcntq128 o) := Form.bytes_length _
theorem Laws.EncodedLength.vpopcntq256 (o : EvexOps Rm) :
    Statement (.vpopcntq256 o) := Form.bytes_length _
theorem Laws.EncodedLength.vpopcntq512 (o : EvexOps Rm) :
    Statement (.vpopcntq512 o) := Form.bytes_length _
theorem Laws.EncodedLength.vpshldw128 (o : EvexOps Rm) (imm : Byte) :
    Statement (.vpshldw128 o imm) := Form.bytes_length _
theorem Laws.EncodedLength.vpshldw256 (o : EvexOps Rm) (imm : Byte) :
    Statement (.vpshldw256 o imm) := Form.bytes_length _
theorem Laws.EncodedLength.vpshldw512 (o : EvexOps Rm) (imm : Byte) :
    Statement (.vpshldw512 o imm) := Form.bytes_length _
theorem Laws.EncodedLength.vpshldd128 (o : EvexOps Rm) (imm : Byte) :
    Statement (.vpshldd128 o imm) := Form.bytes_length _
theorem Laws.EncodedLength.vpshldd256 (o : EvexOps Rm) (imm : Byte) :
    Statement (.vpshldd256 o imm) := Form.bytes_length _
theorem Laws.EncodedLength.vpshldd512 (o : EvexOps Rm) (imm : Byte) :
    Statement (.vpshldd512 o imm) := Form.bytes_length _
theorem Laws.EncodedLength.vpshldq128 (o : EvexOps Rm) (imm : Byte) :
    Statement (.vpshldq128 o imm) := Form.bytes_length _
theorem Laws.EncodedLength.vpshldq256 (o : EvexOps Rm) (imm : Byte) :
    Statement (.vpshldq256 o imm) := Form.bytes_length _
theorem Laws.EncodedLength.vpshldq512 (o : EvexOps Rm) (imm : Byte) :
    Statement (.vpshldq512 o imm) := Form.bytes_length _
theorem Laws.EncodedLength.vpshldvw128 (o : EvexOps Rm) :
    Statement (.vpshldvw128 o) := Form.bytes_length _
theorem Laws.EncodedLength.vpshldvw256 (o : EvexOps Rm) :
    Statement (.vpshldvw256 o) := Form.bytes_length _
theorem Laws.EncodedLength.vpshldvw512 (o : EvexOps Rm) :
    Statement (.vpshldvw512 o) := Form.bytes_length _
theorem Laws.EncodedLength.vpshldvd128 (o : EvexOps Rm) :
    Statement (.vpshldvd128 o) := Form.bytes_length _
theorem Laws.EncodedLength.vpshldvd256 (o : EvexOps Rm) :
    Statement (.vpshldvd256 o) := Form.bytes_length _
theorem Laws.EncodedLength.vpshldvd512 (o : EvexOps Rm) :
    Statement (.vpshldvd512 o) := Form.bytes_length _
theorem Laws.EncodedLength.vpshldvq128 (o : EvexOps Rm) :
    Statement (.vpshldvq128 o) := Form.bytes_length _
theorem Laws.EncodedLength.vpshldvq256 (o : EvexOps Rm) :
    Statement (.vpshldvq256 o) := Form.bytes_length _
theorem Laws.EncodedLength.vpshldvq512 (o : EvexOps Rm) :
    Statement (.vpshldvq512 o) := Form.bytes_length _
theorem Laws.EncodedLength.vpshrdw128 (o : EvexOps Rm) (imm : Byte) :
    Statement (.vpshrdw128 o imm) := Form.bytes_length _
theorem Laws.EncodedLength.vpshrdw256 (o : EvexOps Rm) (imm : Byte) :
    Statement (.vpshrdw256 o imm) := Form.bytes_length _
theorem Laws.EncodedLength.vpshrdw512 (o : EvexOps Rm) (imm : Byte) :
    Statement (.vpshrdw512 o imm) := Form.bytes_length _
theorem Laws.EncodedLength.vpshrdd128 (o : EvexOps Rm) (imm : Byte) :
    Statement (.vpshrdd128 o imm) := Form.bytes_length _
theorem Laws.EncodedLength.vpshrdd256 (o : EvexOps Rm) (imm : Byte) :
    Statement (.vpshrdd256 o imm) := Form.bytes_length _
theorem Laws.EncodedLength.vpshrdd512 (o : EvexOps Rm) (imm : Byte) :
    Statement (.vpshrdd512 o imm) := Form.bytes_length _
theorem Laws.EncodedLength.vpshrdq128 (o : EvexOps Rm) (imm : Byte) :
    Statement (.vpshrdq128 o imm) := Form.bytes_length _
theorem Laws.EncodedLength.vpshrdq256 (o : EvexOps Rm) (imm : Byte) :
    Statement (.vpshrdq256 o imm) := Form.bytes_length _
theorem Laws.EncodedLength.vpshrdq512 (o : EvexOps Rm) (imm : Byte) :
    Statement (.vpshrdq512 o imm) := Form.bytes_length _
theorem Laws.EncodedLength.vpshrdvw128 (o : EvexOps Rm) :
    Statement (.vpshrdvw128 o) := Form.bytes_length _
theorem Laws.EncodedLength.vpshrdvw256 (o : EvexOps Rm) :
    Statement (.vpshrdvw256 o) := Form.bytes_length _
theorem Laws.EncodedLength.vpshrdvw512 (o : EvexOps Rm) :
    Statement (.vpshrdvw512 o) := Form.bytes_length _
theorem Laws.EncodedLength.vpshrdvd128 (o : EvexOps Rm) :
    Statement (.vpshrdvd128 o) := Form.bytes_length _
theorem Laws.EncodedLength.vpshrdvd256 (o : EvexOps Rm) :
    Statement (.vpshrdvd256 o) := Form.bytes_length _
theorem Laws.EncodedLength.vpshrdvd512 (o : EvexOps Rm) :
    Statement (.vpshrdvd512 o) := Form.bytes_length _
theorem Laws.EncodedLength.vpshrdvq128 (o : EvexOps Rm) :
    Statement (.vpshrdvq128 o) := Form.bytes_length _
theorem Laws.EncodedLength.vpshrdvq256 (o : EvexOps Rm) :
    Statement (.vpshrdvq256 o) := Form.bytes_length _
theorem Laws.EncodedLength.vpshrdvq512 (o : EvexOps Rm) :
    Statement (.vpshrdvq512 o) := Form.bytes_length _
theorem Laws.EncodedLength.vpshufbitqmb128 (o : EvexOps Rm) :
    Statement (.vpshufbitqmb128 o) := Form.bytes_length _
theorem Laws.EncodedLength.vpshufbitqmb256 (o : EvexOps Rm) :
    Statement (.vpshufbitqmb256 o) := Form.bytes_length _
theorem Laws.EncodedLength.vpshufbitqmb512 (o : EvexOps Rm) :
    Statement (.vpshufbitqmb512 o) := Form.bytes_length _
theorem Laws.EncodedLength.vpcompressb128m (o : EvexOps Mem) :
    Statement (.vpcompressb128m o) := Form.bytes_length _
theorem Laws.EncodedLength.vpcompressb128r (o : EvexOps (BitVec 5)) :
    Statement (.vpcompressb128r o) := Form.bytes_length _
theorem Laws.EncodedLength.vpcompressb256m (o : EvexOps Mem) :
    Statement (.vpcompressb256m o) := Form.bytes_length _
theorem Laws.EncodedLength.vpcompressb256r (o : EvexOps (BitVec 5)) :
    Statement (.vpcompressb256r o) := Form.bytes_length _
theorem Laws.EncodedLength.vpcompressb512m (o : EvexOps Mem) :
    Statement (.vpcompressb512m o) := Form.bytes_length _
theorem Laws.EncodedLength.vpcompressb512r (o : EvexOps (BitVec 5)) :
    Statement (.vpcompressb512r o) := Form.bytes_length _
theorem Laws.EncodedLength.vpcompressw128m (o : EvexOps Mem) :
    Statement (.vpcompressw128m o) := Form.bytes_length _
theorem Laws.EncodedLength.vpcompressw128r (o : EvexOps (BitVec 5)) :
    Statement (.vpcompressw128r o) := Form.bytes_length _
theorem Laws.EncodedLength.vpcompressw256m (o : EvexOps Mem) :
    Statement (.vpcompressw256m o) := Form.bytes_length _
theorem Laws.EncodedLength.vpcompressw256r (o : EvexOps (BitVec 5)) :
    Statement (.vpcompressw256r o) := Form.bytes_length _
theorem Laws.EncodedLength.vpcompressw512m (o : EvexOps Mem) :
    Statement (.vpcompressw512m o) := Form.bytes_length _
theorem Laws.EncodedLength.vpcompressw512r (o : EvexOps (BitVec 5)) :
    Statement (.vpcompressw512r o) := Form.bytes_length _
theorem Laws.EncodedLength.vpexpandb128m (o : EvexOps Mem) :
    Statement (.vpexpandb128m o) := Form.bytes_length _
theorem Laws.EncodedLength.vpexpandb128r (o : EvexOps (BitVec 5)) :
    Statement (.vpexpandb128r o) := Form.bytes_length _
theorem Laws.EncodedLength.vpexpandb256m (o : EvexOps Mem) :
    Statement (.vpexpandb256m o) := Form.bytes_length _
theorem Laws.EncodedLength.vpexpandb256r (o : EvexOps (BitVec 5)) :
    Statement (.vpexpandb256r o) := Form.bytes_length _
theorem Laws.EncodedLength.vpexpandb512m (o : EvexOps Mem) :
    Statement (.vpexpandb512m o) := Form.bytes_length _
theorem Laws.EncodedLength.vpexpandb512r (o : EvexOps (BitVec 5)) :
    Statement (.vpexpandb512r o) := Form.bytes_length _
theorem Laws.EncodedLength.vpexpandw128m (o : EvexOps Mem) :
    Statement (.vpexpandw128m o) := Form.bytes_length _
theorem Laws.EncodedLength.vpexpandw128r (o : EvexOps (BitVec 5)) :
    Statement (.vpexpandw128r o) := Form.bytes_length _
theorem Laws.EncodedLength.vpexpandw256m (o : EvexOps Mem) :
    Statement (.vpexpandw256m o) := Form.bytes_length _
theorem Laws.EncodedLength.vpexpandw256r (o : EvexOps (BitVec 5)) :
    Statement (.vpexpandw256r o) := Form.bytes_length _
theorem Laws.EncodedLength.vpexpandw512m (o : EvexOps Mem) :
    Statement (.vpexpandw512m o) := Form.bytes_length _
theorem Laws.EncodedLength.vpexpandw512r (o : EvexOps (BitVec 5)) :
    Statement (.vpexpandw512r o) := Form.bytes_length _

end Sys2Proof
end

