-- ==== Sys2Proof/Tests/Slice0.lean ====
section
/-! SUPPORT. Tests: ill-formed terms that the checks refuse, words of R135 decoded, steps with the results
of 95_test_vectors.md, and for every statement with hypotheses a state and operands that meet them. -/

open Sys2Proof Sys2Proof.Machine

namespace Sys2Proof.Test

set_option Elab.async false

/-! ### Helpers -/

def np : Pfx := ⟨[], false⟩

/-- Bytes stored from an address on. -/
def put (s : State) (a : Nat) (bs : List Byte) : State :=
  { s with mem := writeBytes s.mem ((List.range bs.length).map (a + ·)) bs }

def setZ (s : State) (n : BitVec 5) (v : Nat) : State := s.setZmm n (BitVec.ofNat 512 v)

/-- `exec` answers a next state of which `p` holds. -/
def goes (o : Host.Outcome State Fault Refusal) (p : State → Bool) : Bool :=
  match o with
  | .next t => p t
  | .fault _ => false
  | .refused _ => false

theorem next_of_goes {o : Host.Outcome State Fault Refusal} {p : State → Bool}
    (h : goes o p = true) : ∃ t, o = .next t ∧ p t = true := by
  cases o <;> simp_all [goes]

/-- The fault of an outcome. -/
def faultOf (o : Host.Outcome State Fault Refusal) : Option Fault :=
  match o with
  | .fault f => some f
  | .next _ => none
  | .refused _ => none

/-- The refusal of an outcome. -/
def refusalOf (o : Host.Outcome State Fault Refusal) : Option Refusal :=
  match o with
  | .refused r => some r
  | .next _ => none
  | .fault _ => none

/-- Whether a sequence of checks passes. -/
def passes {α : Type} (e : Except Stop α) : Bool :=
  match e with
  | .ok _ => true
  | .error _ => false

theorem ok_of_passes {α : Type} {e : Except Stop α} (h : passes e = true) : ∃ a, e = .ok a := by
  cases e <;> simp_all [passes]

/-- Real-address mode. -/
def real : State := { State.reset with ctl := { State.reset.ctl with cr0 := 0, efer := 0 } }

/-- Virtual-8086 mode. -/
def v86 : State := { State.reset with ctl := { State.reset.ctl with efer := 0 }, rflags := 0x20002 }

/-- Protected mode. -/
def prot : State := { State.reset with ctl := { State.reset.ctl with efer := 0 } }

/-- 64-bit mode at CPL 3. -/
def user : State :=
  { State.reset with segs := { State.reset.segs with ss := { flatSegment with sel := 3 } } }

/-- In a transaction. -/
def inTx : State :=
  { State.reset with cfg := { resetParams with hasTsx := true }, tsx := { active := true, readSet := [] } }

/-- In VMX non-root operation. -/
def inVmx : State :=
  { State.reset with cfg := { resetParams with hasVmx := true },
                     vmx := { State.reset.vmx with nonRoot := true } }

def noFeatures : State := { State.reset with cfg := { resetParams with features := [] } }

def tsSet : State := { State.reset with ctl := { State.reset.ctl with cr0 := 9 } }

/-- Every linear address from 7000H to 7FFFH faults with code 5. -/
def unmapped : State :=
  { State.reset with
    pages := [{ first := 0x7000, last := 0x7FFF, access := none, cpl := none, result := .fault 5 }] }

def waiting (op : WaitOp) : State :=
  { State.reset with
    wait := .waiting { op := op, level := .c01, deadline := 100, usingOs := false, len := 4,
                       woken := false } }

/-- The memory operand [RDI]. -/
def atRdi : Mem := .base 7 .none

/-- CLDEMOTE [RDI] stored at RIP. -/
def demote (s : State) : State := put s 0x400000 [0x0F, 0x1C, 0x07]

/-! ### Ill-formed terms (WellFormed.lean) -/

theorem test_wf_rex_outside_64 : Pfx.wf .prot ⟨[], true⟩ = false := by decide
theorem test_wf_dead_rex_last : Pfx.wf .bits64 ⟨[.deadRex], false⟩ = false := by decide
theorem test_wf_disp16 : Disp.wf16 (.d32 0) = false := by decide
theorem test_wf_disp32 : Disp.wf32 (.d16 0) = false := by decide
theorem test_wf_mem_width : Mem.wf .a16 true atRdi = false := by decide
theorem test_wf_mem_sp : Mem.wf .a64 true (.base 4 .none) = false := by decide
theorem test_wf_mem_bp : Mem.wf .a64 true (.base 5 .none) = false := by decide
theorem test_wf_mem_ext : Mem.wf .a32 false (.sib 0 8 0 .none) = false := by decide
theorem test_wf_mem_bp16 : Mem.wf .a16 true (.a16 6 .none) = false := by decide
theorem test_wf_rm_top : Rm.wf .a64 true 16 (.reg 16) = false := by decide
theorem test_wf_rm_form : RmForm.holds .reg (.mem atRdi) = false := by decide
theorem test_wf_mandatory : Instr.wf .bits64 false (.wbnoinvd np) = false := by decide
theorem test_wf_rex_w : Instr.wf .bits64 false (.movdiri64 np atRdi 0) = false := by decide
theorem test_wf_reg_no_rex : Instr.wf .bits64 false (.movdiri32 np atRdi 8) = false := by decide
theorem test_wf_vex_mode :
    Instr.wf .prot true (.vaesencVex256 ⟨np, 8, 0, .reg 0⟩) = false := by decide
theorem test_wf_vvvv_mode :
    Instr.wf .prot true (.vpopcntb128 ⟨np, 0, 8, .reg 0, 0, false, false⟩) = false := by decide
theorem test_wf_imm : Form.wf .bits64 false (.vex VOp.vaesenc.row true ⟨np, 0, 0, .reg 0⟩ 1) = false := by
  decide
theorem test_wf_length :
    Instr.wf .bits64 false (.pconfig ⟨List.replicate 13 (.seg .cs), false⟩) = false := by decide

/-! ### Words of R135 and of the instruction pages, one family each, in 64-bit mode -/

theorem test_decode_wbnoinvd :
    decode .bits64 false [0xF3, 0x0F, 0x09] = .ok (.wbnoinvd ⟨[.rep], false⟩, []) := by decide
theorem test_decode_gfni :
    decode .bits64 false [0x66, 0x0F, 0x3A, 0xCE, 0xC1, 0x63] =
      .ok (.gf2p8affineqb ⟨[.osize], false⟩ 0 (.reg 1) 0x63, []) := by decide
theorem test_decode_movdir64b :
    decode .bits64 false [0x66, 0x0F, 0x38, 0xF8, 0x06] =
      .ok (.movdir64b ⟨[.osize], false⟩ 0 (.base 6 .none), []) := by decide
theorem test_decode_pconfig : decode .bits64 false [0x0F, 0x01, 0xC5] = .ok (.pconfig np, []) := by
  decide
theorem test_decode_waitpkg :
    decode .bits64 false [0xF3, 0x0F, 0xAE, 0xF0] = .ok (.umonitor ⟨[.rep], false⟩ (.reg 0), []) ∧
    decode .bits64 false [0x66, 0x0F, 0xAE, 0xF1] = .ok (.tpause ⟨[.osize], false⟩ (.reg 1), []) ∧
    decode .bits64 false [0xF2, 0x0F, 0xAE, 0xF1] = .ok (.umwait ⟨[.repne], false⟩ (.reg 1), []) := by
  decide
theorem test_decode_vaes :
    decode .bits64 false [0x62, 0xF2, 0x75, 0x28, 0xDC, 0xC2] =
      .ok (.vaesencEvex256 ⟨np, 0, 1, .reg 2, 0, false, false⟩, []) := by decide
theorem test_decode_vpclmulqdq :
    decode .bits64 false [0x62, 0xF3, 0x75, 0x08, 0x44, 0xC2, 0x11] =
      .ok (.vpclmulqdqEvex128 ⟨np, 0, 1, .reg 2, 0, false, false⟩ 0x11, []) := by decide
theorem test_decode_vpexpandw :
    decode .bits64 false [0x62, 0xF2, 0xFD, 0xCA, 0x62, 0xDC] =
      .ok (.vpexpandw512r ⟨np, 3, 0, 4, 2, true, false⟩, []) := by decide
theorem test_decode_vnni :
    decode .bits64 false [0x62, 0xF2, 0x75, 0x08, 0x50, 0xC2] =
      .ok (.vpdpbusd128 ⟨np, 0, 1, .reg 2, 0, false, false⟩, []) := by decide
theorem test_decode_vpshufbitqmb :
    decode .bits64 false [0x62, 0xF2, 0x75, 0x0A, 0x8F, 0xCA] =
      .ok (.vpshufbitqmb128 ⟨np, 1, 1, .reg 2, 2, false, false⟩, []) := by decide
theorem test_decode_vpopcnt_broadcast :
    decode .bits64 false [0x62, 0xF2, 0x7D, 0x18, 0x55, 0x00] =
      .ok (.vpopcntd128 ⟨np, 0, 0, .mem (.base 0 .none), 0, false, true⟩, []) := by decide
theorem test_decode_outside : decode .bits64 false [0x0F, 0x1C, 0xC7] = .error .outside := by decide

/-- R131: a C4 string that opens no row is refused though 15 bytes do not hold its ModRM. -/
theorem test_decode_outside_before_length :
    decode .bits64 false (List.replicate 11 0x2E ++ [0xC4, 0xE1, 0x78, 0x77]) = .error .outside := by decide

/-- R117, R133: VPOPCNTB in protected mode with vvvv bit 3 stored 0 is #UD; VPDPBUSD uses vvvv and ignores
the bit (log 39). -/
theorem test_decode_vvvv_outside_64 :
    decode .prot true [0x62, 0xF2, 0x3D, 0x08, 0x54, 0xC2] = .error (.ud 0) ∧
    decode .prot true [0x62, 0xF2, 0x35, 0x08, 0x50, 0xC2] =
      .ok (.vpdpbusd128 ⟨np, 0, 1, .reg 2, 0, false, false⟩, []) := by decide

/-- R92, R115, R119, R131: B not plain in protected mode is refused, but with LOCK, and in real-address
mode, it is #UD. -/
theorem test_decode_extension_outside_64 :
    decode .prot true [0x62, 0xD2, 0x75, 0x08, 0x50, 0xC2] = .error .evexExt ∧
    decode .prot true [0xF0, 0x62, 0xD2, 0x75, 0x08, 0x50, 0xC2] = .error (.ud 0) ∧
    decode .real true [0x62, 0xD2, 0x75, 0x08, 0x50, 0xC2] = .error (.ud 0) := by decide

/-- R92, R131: LOCK before VPDPBUSD with vvvv bit 3 stored 0 is #UD in protected mode. -/
theorem test_lock_vvvv_outside_64 :
    ∃ i, decode .prot true [0xF0, 0x62, 0xF2, 0x35, 0x48, 0x50, 0xC2] = .ok (i, []) ∧
      exec i prot = .fault (.exception .ud none none) :=
  ⟨.vpdpbusd512 ⟨⟨[.lock], false⟩, 0, 1, .reg 2, 0, false, false⟩, by decide, rfl⟩

/-- R116, R118, R312: reserved P0 bits and L'L = 11 are #UD, but too many bytes come first. -/
theorem test_decode_reserved :
    decode .bits64 false [0x62, 0xF6, 0x75, 0x08, 0x50, 0xC2, 0xCC] = .error (.ud 1) ∧
    decode .bits64 false [0x62, 0xF2, 0x75, 0x68, 0x50, 0xC2] = .error (.ud 0) ∧
    decode .bits64 false (List.replicate 10 0x2E ++ [0x62, 0xF2, 0x75, 0x68, 0x50]) =
      .error .short := by decide

/-! ### One word for every encoding

The bytes are put together by hand from the opcode strings of R124 and the columns of R125 and R126: W, L, map,
opcode; register operands 0, 1 and 2, writemask k1 where the row has one, an immediate 11H. -/

def vexOperands : VexOps := ⟨np, 0, 1, .reg 2⟩
def masked : EvexOps Rm := ⟨np, 0, 1, .reg 2, 1, false, false⟩
def plain : EvexOps Rm := ⟨np, 0, 1, .reg 2, 0, false, false⟩
def unary : EvexOps Rm := ⟨np, 0, 0, .reg 2, 1, false, false⟩
def denseMem : EvexOps Mem := ⟨np, 0, 0, atRdi, 1, false, false⟩
def denseReg : EvexOps (BitVec 5) := ⟨np, 0, 0, 2, 1, false, false⟩

/-- Whether each byte string decodes, whole, to the instruction beside it. -/
def reads (l : List (List Byte × Instr)) : Bool :=
  l.all fun x => (decode .bits64 false x.1).toOption = some (x.2, [])

theorem test_words_legacy : reads [
    ([0x0F, 0x1C, 0x07], .cldemote np atRdi),
    ([0x66, 0x0F, 0x3A, 0xCF, 0xC1, 0x11], .gf2p8affineinvqb ⟨[.osize], false⟩ 0 (.reg 1) 0x11),
    ([0x66, 0x0F, 0x3A, 0xCE, 0xC1, 0x11], .gf2p8affineqb ⟨[.osize], false⟩ 0 (.reg 1) 0x11),
    ([0x66, 0x0F, 0x38, 0xCF, 0xC1], .gf2p8mulb ⟨[.osize], false⟩ 0 (.reg 1)),
    ([0x0F, 0x38, 0xF9, 0x0F], .movdiri32 np atRdi 1),
    ([0x4C, 0x0F, 0x38, 0xF9, 0x0F], .movdiri64 ⟨[], true⟩ atRdi 9),
    ([0x66, 0x0F, 0x38, 0xF8, 0x07], .movdir64b ⟨[.osize], false⟩ 0 atRdi),
    ([0x0F, 0x01, 0xC5], .pconfig np),
    ([0x66, 0x0F, 0xAE, 0xF1], .tpause ⟨[.osize], false⟩ (.reg 1)),
    ([0xF3, 0x0F, 0xAE, 0xF1], .umonitor ⟨[.rep], false⟩ (.reg 1)),
    ([0xF2, 0x0F, 0xAE, 0xF1], .umwait ⟨[.repne], false⟩ (.reg 1)),
    ([0xF3, 0x0F, 0x09], .wbnoinvd ⟨[.rep], false⟩)] = true := by
  decide +kernel

theorem test_words_vex : reads [
    ([0xC4, 0xE3, 0xF1, 0xCF, 0xC2, 0x11], .vgf2p8affineinvqbVex128 vexOperands 0x11),
    ([0xC4, 0xE3, 0xF5, 0xCF, 0xC2, 0x11], .vgf2p8affineinvqbVex256 vexOperands 0x11),
    ([0xC4, 0xE3, 0xF1, 0xCE, 0xC2, 0x11], .vgf2p8affineqbVex128 vexOperands 0x11),
    ([0xC4, 0xE3, 0xF5, 0xCE, 0xC2, 0x11], .vgf2p8affineqbVex256 vexOperands 0x11),
    ([0xC4, 0xE2, 0x71, 0xCF, 0xC2], .vgf2p8mulbVex128 vexOperands),
    ([0xC4, 0xE2, 0x75, 0xCF, 0xC2], .vgf2p8mulbVex256 vexOperands),
    ([0xC4, 0xE2, 0x75, 0xDE, 0xC2], .vaesdecVex256 vexOperands),
    ([0xC4, 0xE2, 0x75, 0xDF, 0xC2], .vaesdeclastVex256 vexOperands),
    ([0xC4, 0xE2, 0x75, 0xDC, 0xC2], .vaesencVex256 vexOperands),
    ([0xC4, 0xE2, 0x75, 0xDD, 0xC2], .vaesenclastVex256 vexOperands),
    ([0xC4, 0xE3, 0x75, 0x44, 0xC2, 0x11], .vpclmulqdqVex256 vexOperands 0x11)] = true := by
  decide +kernel

theorem test_words_evex_gfni : reads [
    ([0x62, 0xF3, 0xF5, 0x09, 0xCF, 0xC2, 0x11], .vgf2p8affineinvqbEvex128 masked 0x11),
    ([0x62, 0xF3, 0xF5, 0x29, 0xCF, 0xC2, 0x11], .vgf2p8affineinvqbEvex256 masked 0x11),
    ([0x62, 0xF3, 0xF5, 0x49, 0xCF, 0xC2, 0x11], .vgf2p8affineinvqbEvex512 masked 0x11),
    ([0x62, 0xF3, 0xF5, 0x09, 0xCE, 0xC2, 0x11], .vgf2p8affineqbEvex128 masked 0x11),
    ([0x62, 0xF3, 0xF5, 0x29, 0xCE, 0xC2, 0x11], .vgf2p8affineqbEvex256 masked 0x11),
    ([0x62, 0xF3, 0xF5, 0x49, 0xCE, 0xC2, 0x11], .vgf2p8affineqbEvex512 masked 0x11),
    ([0x62, 0xF2, 0x75, 0x09, 0xCF, 0xC2], .vgf2p8mulbEvex128 masked),
    ([0x62, 0xF2, 0x75, 0x29, 0xCF, 0xC2], .vgf2p8mulbEvex256 masked),
    ([0x62, 0xF2, 0x75, 0x49, 0xCF, 0xC2], .vgf2p8mulbEvex512 masked)] = true := by
  decide +kernel

theorem test_words_evex_crypto : reads [
    ([0x62, 0xF2, 0x75, 0x08, 0xDE, 0xC2], .vaesdecEvex128 plain),
    ([0x62, 0xF2, 0x75, 0x28, 0xDE, 0xC2], .vaesdecEvex256 plain),
    ([0x62, 0xF2, 0x75, 0x48, 0xDE, 0xC2], .vaesdecEvex512 plain),
    ([0x62, 0xF2, 0x75, 0x08, 0xDF, 0xC2], .vaesdeclastEvex128 plain),
    ([0x62, 0xF2, 0x75, 0x28, 0xDF, 0xC2], .vaesdeclastEvex256 plain),
    ([0x62, 0xF2, 0x75, 0x48, 0xDF, 0xC2], .vaesdeclastEvex512 plain),
    ([0x62, 0xF2, 0x75, 0x08, 0xDC, 0xC2], .vaesencEvex128 plain),
    ([0x62, 0xF2, 0x75, 0x28, 0xDC, 0xC2], .vaesencEvex256 plain),
    ([0x62, 0xF2, 0x75, 0x48, 0xDC, 0xC2], .vaesencEvex512 plain),
    ([0x62, 0xF2, 0x75, 0x08, 0xDD, 0xC2], .vaesenclastEvex128 plain),
    ([0x62, 0xF2, 0x75, 0x28, 0xDD, 0xC2], .vaesenclastEvex256 plain),
    ([0x62, 0xF2, 0x75, 0x48, 0xDD, 0xC2], .vaesenclastEvex512 plain),
    ([0x62, 0xF3, 0x75, 0x08, 0x44, 0xC2, 0x11], .vpclmulqdqEvex128 plain 0x11),
    ([0x62, 0xF3, 0x75, 0x28, 0x44, 0xC2, 0x11], .vpclmulqdqEvex256 plain 0x11),
    ([0x62, 0xF3, 0x75, 0x48, 0x44, 0xC2, 0x11], .vpclmulqdqEvex512 plain 0x11)] = true := by
  decide +kernel

theorem test_words_evex_dense : reads [
    ([0x62, 0xF2, 0x7D, 0x09, 0x63, 0x07], .vpcompressb128m denseMem),
    ([0x62, 0xF2, 0x7D, 0x09, 0x63, 0xC2], .vpcompressb128r denseReg),
    ([0x62, 0xF2, 0x7D, 0x29, 0x63, 0x07], .vpcompressb256m denseMem),
    ([0x62, 0xF2, 0x7D, 0x29, 0x63, 0xC2], .vpcompressb256r denseReg),
    ([0x62, 0xF2, 0x7D, 0x49, 0x63, 0x07], .vpcompressb512m denseMem),
    ([0x62, 0xF2, 0x7D, 0x49, 0x63, 0xC2], .vpcompressb512r denseReg),
    ([0x62, 0xF2, 0xFD, 0x09, 0x63, 0x07], .vpcompressw128m denseMem),
    ([0x62, 0xF2, 0xFD, 0x09, 0x63, 0xC2], .vpcompressw128r denseReg),
    ([0x62, 0xF2, 0xFD, 0x29, 0x63, 0x07], .vpcompressw256m denseMem),
    ([0x62, 0xF2, 0xFD, 0x29, 0x63, 0xC2], .vpcompressw256r denseReg),
    ([0x62, 0xF2, 0xFD, 0x49, 0x63, 0x07], .vpcompressw512m denseMem),
    ([0x62, 0xF2, 0xFD, 0x49, 0x63, 0xC2], .vpcompressw512r denseReg),
    ([0x62, 0xF2, 0x7D, 0x09, 0x62, 0x07], .vpexpandb128m denseMem),
    ([0x62, 0xF2, 0x7D, 0x09, 0x62, 0xC2], .vpexpandb128r denseReg),
    ([0x62, 0xF2, 0x7D, 0x29, 0x62, 0x07], .vpexpandb256m denseMem),
    ([0x62, 0xF2, 0x7D, 0x29, 0x62, 0xC2], .vpexpandb256r denseReg),
    ([0x62, 0xF2, 0x7D, 0x49, 0x62, 0x07], .vpexpandb512m denseMem),
    ([0x62, 0xF2, 0x7D, 0x49, 0x62, 0xC2], .vpexpandb512r denseReg),
    ([0x62, 0xF2, 0xFD, 0x09, 0x62, 0x07], .vpexpandw128m denseMem),
    ([0x62, 0xF2, 0xFD, 0x09, 0x62, 0xC2], .vpexpandw128r denseReg),
    ([0x62, 0xF2, 0xFD, 0x29, 0x62, 0x07], .vpexpandw256m denseMem),
    ([0x62, 0xF2, 0xFD, 0x29, 0x62, 0xC2], .vpexpandw256r denseReg),
    ([0x62, 0xF2, 0xFD, 0x49, 0x62, 0x07], .vpexpandw512m denseMem),
    ([0x62, 0xF2, 0xFD, 0x49, 0x62, 0xC2], .vpexpandw512r denseReg)] = true := by
  decide +kernel

theorem test_words_evex_vnni : reads [
    ([0x62, 0xF2, 0x75, 0x09, 0x50, 0xC2], .vpdpbusd128 masked),
    ([0x62, 0xF2, 0x75, 0x29, 0x50, 0xC2], .vpdpbusd256 masked),
    ([0x62, 0xF2, 0x75, 0x49, 0x50, 0xC2], .vpdpbusd512 masked),
    ([0x62, 0xF2, 0x75, 0x09, 0x51, 0xC2], .vpdpbusds128 masked),
    ([0x62, 0xF2, 0x75, 0x29, 0x51, 0xC2], .vpdpbusds256 masked),
    ([0x62, 0xF2, 0x75, 0x49, 0x51, 0xC2], .vpdpbusds512 masked),
    ([0x62, 0xF2, 0x75, 0x09, 0x52, 0xC2], .vpdpwssd128 masked),
    ([0x62, 0xF2, 0x75, 0x29, 0x52, 0xC2], .vpdpwssd256 masked),
    ([0x62, 0xF2, 0x75, 0x49, 0x52, 0xC2], .vpdpwssd512 masked),
    ([0x62, 0xF2, 0x75, 0x09, 0x53, 0xC2], .vpdpwssds128 masked),
    ([0x62, 0xF2, 0x75, 0x29, 0x53, 0xC2], .vpdpwssds256 masked),
    ([0x62, 0xF2, 0x75, 0x49, 0x53, 0xC2], .vpdpwssds512 masked)] = true := by
  decide +kernel

theorem test_words_evex_bits : reads [
    ([0x62, 0xF2, 0x7D, 0x09, 0x54, 0xC2], .vpopcntb128 unary),
    ([0x62, 0xF2, 0x7D, 0x29, 0x54, 0xC2], .vpopcntb256 unary),
    ([0x62, 0xF2, 0x7D, 0x49, 0x54, 0xC2], .vpopcntb512 unary),
    ([0x62, 0xF2, 0xFD, 0x09, 0x54, 0xC2], .vpopcntw128 unary),
    ([0x62, 0xF2, 0xFD, 0x29, 0x54, 0xC2], .vpopcntw256 unary),
    ([0x62, 0xF2, 0xFD, 0x49, 0x54, 0xC2], .vpopcntw512 unary),
    ([0x62, 0xF2, 0x7D, 0x09, 0x55, 0xC2], .vpopcntd128 unary),
    ([0x62, 0xF2, 0x7D, 0x29, 0x55, 0xC2], .vpopcntd256 unary),
    ([0x62, 0xF2, 0x7D, 0x49, 0x55, 0xC2], .vpopcntd512 unary),
    ([0x62, 0xF2, 0xFD, 0x09, 0x55, 0xC2], .vpopcntq128 unary),
    ([0x62, 0xF2, 0xFD, 0x29, 0x55, 0xC2], .vpopcntq256 unary),
    ([0x62, 0xF2, 0xFD, 0x49, 0x55, 0xC2], .vpopcntq512 unary),
    ([0x62, 0xF2, 0x75, 0x09, 0x8F, 0xC2], .vpshufbitqmb128 masked),
    ([0x62, 0xF2, 0x75, 0x29, 0x8F, 0xC2], .vpshufbitqmb256 masked),
    ([0x62, 0xF2, 0x75, 0x49, 0x8F, 0xC2], .vpshufbitqmb512 masked)] = true := by
  decide +kernel

theorem test_words_evex_shift : reads [
    ([0x62, 0xF3, 0xF5, 0x09, 0x70, 0xC2, 0x11], .vpshldw128 masked 0x11),
    ([0x62, 0xF3, 0xF5, 0x29, 0x70, 0xC2, 0x11], .vpshldw256 masked 0x11),
    ([0x62, 0xF3, 0xF5, 0x49, 0x70, 0xC2, 0x11], .vpshldw512 masked 0x11),
    ([0x62, 0xF3, 0x75, 0x09, 0x71, 0xC2, 0x11], .vpshldd128 masked 0x11),
    ([0x62, 0xF3, 0x75, 0x29, 0x71, 0xC2, 0x11], .vpshldd256 masked 0x11),
    ([0x62, 0xF3, 0x75, 0x49, 0x71, 0xC2, 0x11], .vpshldd512 masked 0x11),
    ([0x62, 0xF3, 0xF5, 0x09, 0x71, 0xC2, 0x11], .vpshldq128 masked 0x11),
    ([0x62, 0xF3, 0xF5, 0x29, 0x71, 0xC2, 0x11], .vpshldq256 masked 0x11),
    ([0x62, 0xF3, 0xF5, 0x49, 0x71, 0xC2, 0x11], .vpshldq512 masked 0x11),
    ([0x62, 0xF2, 0xF5, 0x09, 0x70, 0xC2], .vpshldvw128 masked),
    ([0x62, 0xF2, 0xF5, 0x29, 0x70, 0xC2], .vpshldvw256 masked),
    ([0x62, 0xF2, 0xF5, 0x49, 0x70, 0xC2], .vpshldvw512 masked),
    ([0x62, 0xF2, 0x75, 0x09, 0x71, 0xC2], .vpshldvd128 masked),
    ([0x62, 0xF2, 0x75, 0x29, 0x71, 0xC2], .vpshldvd256 masked),
    ([0x62, 0xF2, 0x75, 0x49, 0x71, 0xC2], .vpshldvd512 masked),
    ([0x62, 0xF2, 0xF5, 0x09, 0x71, 0xC2], .vpshldvq128 masked),
    ([0x62, 0xF2, 0xF5, 0x29, 0x71, 0xC2], .vpshldvq256 masked),
    ([0x62, 0xF2, 0xF5, 0x49, 0x71, 0xC2], .vpshldvq512 masked),
    ([0x62, 0xF3, 0xF5, 0x09, 0x72, 0xC2, 0x11], .vpshrdw128 masked 0x11),
    ([0x62, 0xF3, 0xF5, 0x29, 0x72, 0xC2, 0x11], .vpshrdw256 masked 0x11),
    ([0x62, 0xF3, 0xF5, 0x49, 0x72, 0xC2, 0x11], .vpshrdw512 masked 0x11),
    ([0x62, 0xF3, 0x75, 0x09, 0x73, 0xC2, 0x11], .vpshrdd128 masked 0x11),
    ([0x62, 0xF3, 0x75, 0x29, 0x73, 0xC2, 0x11], .vpshrdd256 masked 0x11),
    ([0x62, 0xF3, 0x75, 0x49, 0x73, 0xC2, 0x11], .vpshrdd512 masked 0x11),
    ([0x62, 0xF3, 0xF5, 0x09, 0x73, 0xC2, 0x11], .vpshrdq128 masked 0x11),
    ([0x62, 0xF3, 0xF5, 0x29, 0x73, 0xC2, 0x11], .vpshrdq256 masked 0x11),
    ([0x62, 0xF3, 0xF5, 0x49, 0x73, 0xC2, 0x11], .vpshrdq512 masked 0x11),
    ([0x62, 0xF2, 0xF5, 0x09, 0x72, 0xC2], .vpshrdvw128 masked),
    ([0x62, 0xF2, 0xF5, 0x29, 0x72, 0xC2], .vpshrdvw256 masked),
    ([0x62, 0xF2, 0xF5, 0x49, 0x72, 0xC2], .vpshrdvw512 masked),
    ([0x62, 0xF2, 0x75, 0x09, 0x73, 0xC2], .vpshrdvd128 masked),
    ([0x62, 0xF2, 0x75, 0x29, 0x73, 0xC2], .vpshrdvd256 masked),
    ([0x62, 0xF2, 0x75, 0x49, 0x73, 0xC2], .vpshrdvd512 masked),
    ([0x62, 0xF2, 0xF5, 0x09, 0x73, 0xC2], .vpshrdvq128 masked),
    ([0x62, 0xF2, 0xF5, 0x29, 0x73, 0xC2], .vpshrdvq256 masked),
    ([0x62, 0xF2, 0xF5, 0x49, 0x73, 0xC2], .vpshrdvq512 masked)] = true := by
  decide +kernel

/-! ### Steps, with the values of 95_test_vectors.md -/

/-- 95 §2: GF2P8AFFINEQB with F1E3C78F1F3E7CF8H and 63H, the upper bits kept. -/
theorem test_gf2p8affineqb :
    goes (exec (.gf2p8affineqb ⟨[.osize], false⟩ 0 (.reg 1) 0x63)
      (setZ (setZ State.reset 0 (2 ^ 200 + 0x00112233445566778899AABBCCDDEEFF)) 1
        0xF1E3C78F1F3E7CF8F1E3C78F1F3E7CF8))
      (fun t => t.zmmAt 0 = BitVec.ofNat 512 (2 ^ 200 + 0x638DBE50D83605EB14FAC927AF41729C)) = true := by
  decide +kernel

/-- 95 §2: GF2P8AFFINEINVQB with the identity matrix is the table of inverses. -/
theorem test_gf2p8affineinvqb :
    goes (exec (.gf2p8affineinvqb ⟨[.osize], false⟩ 0 (.reg 1) 0)
      (setZ (setZ State.reset 0 0x00112233445566778899AABBCCDDEEFF) 1
        0x01020408102040800102040810204080))
      (fun t => t.zmmAt 0 = BitVec.ofNat 512 0x00B45A6C2D24363C9B14123D1BF81E1C) = true := by
  decide +kernel

/-- 95 §2: VGF2P8MULB xmm0 with k2 = 8001H, merging: only bytes 0 and 15 are computed. -/
theorem test_vgf2p8mulb_merging :
    goes (exec (.vgf2p8mulbEvex128 ⟨np, 0, 1, .reg 2, 2, false, false⟩)
      ((setZ (setZ (setZ State.reset 0 0xEEEEEEEEEEEEEEEEEEEEEEEEEEEEEEEE) 1
        0x02020202020202020202020202020202) 2 0x80808080808080808080808080808080).setK 2 0x8001))
      (fun t => t.zmmAt 0 = BitVec.ofNat 512 0x1BEEEEEEEEEEEEEEEEEEEEEEEEEEEE1B) = true := by
  decide +kernel

/-- 95 §5: VAESENC and VAESDEC of one lane. -/
theorem test_vaes :
    aesEnc 0x7B5B54657374566563746F725D53475D 0x48692853686179295B477565726F6E5D =
      0xA8311C2F9FDBA3C58B104B58DED7E595 ∧
    aesDec 0x7B5B54657374566563746F725D53475D 0x48692853686179295B477565726F6E5D =
      0x138AC342FAEA2787B58EB95EB730392A := by decide +kernel

/-- R229: InvMixColumns of the state whose only byte is 01. -/
theorem test_invMixColumns : invMixColumns 1 = 0x0B0D090E := by decide +kernel

/-- 95 §5: VPCLMULQDQ of the upper quadwords. -/
theorem test_vpclmulqdq :
    goes (exec (.vpclmulqdqEvex128 ⟨np, 0, 1, .reg 2, 0, false, false⟩ 0x11)
      (setZ (setZ State.reset 1 0x7B5B54657374566563746F725D53475D) 2
        0x48692853686179295B477565726F6E5D))
      (fun t => t.zmmAt 0 = BitVec.ofNat 512 0x1D1E1F2C592E7C45D66EE03E410FD4ED) = true := by
  decide +kernel

/-- R252: VPCOMPRESSB to a register, mask A0C5H, zeroing. -/
theorem test_vpcompressb :
    goes (exec (.vpcompressb128r ⟨np, 0, 0, 2, 1, true, false⟩)
      ((setZ State.reset 0 0x1F1E1D1C1B1A19181716151413121110).setK 1 0xA0C5))
      (fun t => t.zmmAt 2 = BitVec.ofNat 512 0x1F1D17161210) = true := by decide +kernel

/-- R254: VPCOMPRESSW to memory stores the three active words and no more. -/
theorem test_vpcompressw_memory :
    goes (exec (.vpcompressw128m ⟨np, 0, 0, atRdi, 1, false, false⟩)
      (((setZ (put State.reset 0x5FFF (List.replicate 9 0xCC)) 0
        0x11071106110511041103110211011100).setK 1 0x94).setGpr 7 0x6000))
      (fun t => (List.range 9).map (fun i => t.byteAt (0x5FFF + i)) =
        [0xCC, 0x02, 0x11, 0x04, 0x11, 0x07, 0x11, 0xCC, 0xCC]) = true := by decide +kernel

/-- R257: the example of VPEXPANDW, merging. -/
theorem test_vpexpandw :
    goes (exec (.vpexpandw128r ⟨np, 0, 0, 3, 1, false, false⟩)
      ((setZ (setZ State.reset 0 0xEFEEEDECEBEAE9E8E7E6E5E4E3E2E1E0) 3
        0xB007B006B005B004B003B002B001B000).setK 1 0x94))
      (fun t => t.zmmAt 0 = BitVec.ofNat 512 0xB002EDECEBEAB001E7E6B000E3E2E1E0) = true := by
  decide +kernel

/-- 95 §7: VPDPBUSD with both signs, and VPDPBUSDS at the upper bound. -/
theorem test_vpdpbusd :
    wrap32 (busdSum 0x10 0x028001FF 0x02FF7F80) = 0xFFFF8093 ∧
    sat32 (busdSum 0x7FFFFFFF 0xFFFFFFFF 0x7F7F7F7F) = 0x7FFFFFFF ∧
    wrap32 (busdSum 0x7FFFFFFF 0xFFFFFFFF 0x7F7F7F7F) = 0x8001FA03 := by decide +kernel

/-- 95 §8: VPOPCNTD with a broadcast element. -/
theorem test_vpopcntd_broadcast :
    goes (exec (.vpopcntd128 ⟨np, 0, 0, .mem atRdi, 0, false, true⟩)
      ((put State.reset 0x7000 [0x00, 0xFF, 0x01, 0x80]).setGpr 7 0x7000))
      (fun t => t.zmmAt 0 = BitVec.ofNat 512 0x0000000A0000000A0000000A0000000A) = true := by
  decide +kernel

/-- R286: VPSHUFBITQMB under k2 = 0F0FH. -/
theorem test_vpshufbitqmb :
    goes (exec (.vpshufbitqmb128 ⟨np, 1, 1, .reg 2, 2, false, false⟩)
      ((setZ (setZ State.reset 1 0x0123456789ABCDEF8000000000000001) 2
        0x3C1814100C080400077F7F403E013F00).setK 2 0xF0F))
      (fun t => t.kAt 1 = 0x503) = true := by decide +kernel

/-- 95 §9: VPSHLDW and VPSHRDW, count 1FH taken modulo 16. -/
theorem test_vpshldw :
    shld 16 0x1234 0xABCD (count 16 0x1F) = 0x55E6 ∧ shrd 16 0xABCD 0x1234 (count 16 0x1F) = 0x579A := by
  decide

/-- R306: VPSHRDVD takes the old destination as the lower half. -/
theorem test_vpshrdvd :
    goes (exec (.vpshrdvd128 ⟨np, 0, 1, .reg 2, 0, false, false⟩)
      (setZ (setZ (setZ State.reset 0 0x9ABCDEF0) 1 0x12345678) 2 8))
      (fun t => t.zmmAt 0 = BitVec.ofNat 512 0x789ABCDE) = true := by decide +kernel

/-- R170: MOVDIRI stores four bytes, lowest first. -/
theorem test_movdiri :
    goes (exec (.movdiri32 np atRdi 1)
      (((put State.reset 0x1FFF (List.replicate 6 0xCC)).setGpr 7 0x2000).setGpr 1 0x1122334455667788))
      (fun t => (List.range 6).map (fun i => t.byteAt (0x1FFF + i)) =
        [0xCC, 0x88, 0x77, 0x66, 0x55, 0xCC] && t.written = [0x2000, 0x2001, 0x2002, 0x2003]) = true := by
  decide +kernel

/-- R173: MOVDIR64B of an overlapping source reads all before it writes. -/
theorem test_movdir64b_overlap :
    goes (exec (.movdir64b ⟨[.osize], false⟩ 0 atRdi)
      (((put State.reset 0x1FF0 [1, 2, 3]).setGpr 7 0x1FF0).setGpr 0 0x2000))
      (fun t => (List.range 4).map (fun i => t.byteAt (0x2000 + i)) = [1, 2, 3, 0] &&
        t.byteAt 0x1FF0 = 1) = true := by decide +kernel

/-- R145: WBNOINVD at CPL 3 is #GP(0). -/
theorem test_wbnoinvd_user :
    faultOf (exec (.wbnoinvd ⟨[.rep], false⟩) user) = some (.exception .gp (some 0) none) := by decide +kernel

/-- R205: the zero limit, the OS limit, and the tie. -/
theorem test_deadline :
    let s := (State.reset.setGpr 0 50).setGpr 2 1
    let lim := fun (v : BitVec 32) => { s with msr := { s.msr with umwaitControl := v } }
    s.deadline = (2 ^ 32 + 50, false) ∧ (lim 103).deadline = (100, true) ∧
    State.deadline { lim 103 with tsc := BitVec.ofNat 64 (2 ^ 32 - 50) } = (2 ^ 32 + 50, false) := by
  decide +kernel

/-- R203: TPAUSE whose deadline has passed completes with the status flags 0. -/
theorem test_tpause_passed :
    goes (exec (.tpause ⟨[.osize], false⟩ (.reg 1)) { State.reset with rflags := 0x8D7 })
      (fun t => t.rflags = 2 && t.rip = 0x400004 && t.wait = .running) = true := by decide +kernel

/-- R200: UMONITOR arms the monitor. -/
theorem test_umonitor :
    goes (exec (.umonitor ⟨[.rep], false⟩ (.reg 0)) (State.reset.setGpr 0 0x5000))
      (fun t => t.monitor = { armed := true, addr := 0x5000, setBy := .umonitor }) = true := by
  decide +kernel

/-! ### Witnesses: encoding and the step -/

theorem test_meets_DecodeOfEncode :
    Instr.wf .bits64 false (.vpexpandb128m ⟨np, 31, 0, .sib 3 15 13 (.d8 0x80), 7, true, false⟩) = true ∧
    Instr.wf .real true (.gf2p8mulb ⟨[.osize], false⟩ 7 (.mem (.a16 6 (.d16 0xFFFF)))) = true := by
  decide

theorem test_meets_DecodedIsWellFormed :
    let bs : List Byte := List.replicate 12 0x2E ++ [0x0F, 0x01, 0xC5]
    bs.length ≤ 15 ∧
      decode .bits64 false bs = .ok (.pconfig ⟨List.replicate 12 (.seg .cs), false⟩, []) := by
  decide

/-- Each clause of the statement about a step: in range, at the last canonical byte, a fault, a refusal. -/
theorem test_meets_StepRunsDecoded :
    let meets := fun (s : State) (i : Instr) (inside : Bool) =>
      let t := s.beginStep
      t.wait = .running ∧ (decode t.mode t.segs.csD t.fetchBytes).toOption.map (·.1) = some i ∧
      t.ripInRange (i.len - 1) = true ∧ (∀ n, n < i.len → t.fetchPlace n ∉ t.written) ∧
      t.ripInRange i.len = inside
    let high : State := { State.reset with rip := BitVec.ofNat 64 (2 ^ 47 - 3) }
    meets (demote State.reset) (.cldemote np atRdi) true ∧
    meets (put high (2 ^ 47 - 3) [0x0F, 0x1C, 0x07]) (.cldemote np atRdi) false ∧
    goes (exec (.cldemote np atRdi) high) (fun _ => true) = true ∧
    meets (put user 0x400000 [0xF3, 0x0F, 0x09]) (.wbnoinvd ⟨[.rep], false⟩) true ∧
    faultOf (exec (.wbnoinvd ⟨[.rep], false⟩) user) = some (.exception .gp (some 0) none) ∧
    meets (put noFeatures 0x400000 [0xF3, 0x0F, 0x09]) (.wbnoinvd ⟨[.rep], false⟩) true ∧
    refusalOf (exec (.wbnoinvd ⟨[.rep], false⟩) noFeatures) = some .wbnoinvdAbsent := by
  decide +kernel

theorem test_demote_steps : ∃ t, Sys2Proof.Machine.step (demote State.reset) = .next t :=
  (next_of_goes (p := fun _ => true) (by decide +kernel)).imp fun _ h => h.1

theorem test_demote_runs : ∃ t, exec (.cldemote np atRdi) State.reset = .next t :=
  (next_of_goes (p := fun _ => true) (by decide +kernel)).imp fun _ h => h.1

/-- Met by the statements about every next state of a step. -/
theorem test_meets_TimeMovesForward :
    (∃ t, Sys2Proof.Machine.step (demote State.reset) = .next t) ∧
    (waiting .tpause).inputs = [] ∧ (∃ w, (waiting .tpause).wait = .waiting w) ∧
    (waiting .tpause).tsc.toNat + 1 < 2 ^ 64 :=
  ⟨test_demote_steps, rfl, ⟨_, rfl⟩, by decide⟩

theorem test_meets_ModeAndPrivilegeStay :
    ∃ t, Sys2Proof.Machine.step (demote State.reset) = .next t := test_demote_steps

/-- Each clause: RESET# pending or not, and each reason for a wait to end. -/
theorem test_meets_StepOfAWait :
    let w : Wait :=
      { op := .tpause, level := .c01, deadline := 0, usingOs := false, len := 4, woken := false }
    (waiting .umwait).inputs = [] ∧ (∃ w, (waiting .umwait).wait = .waiting w) ∧
    Event.reset ∉ (waiting .umwait).pending ∧
    Event.reset ∈ State.pending { waiting .umwait with pending := [.reset] } ∧
    w.deadline ≤ (State.beginStep { State.reset with wait := .waiting w }).tsc.toNat ∧
    Event.reset ∉ [Event.nmi] ∧ [Event.nmi] ≠ [] ∧ (waiting .umwait).monitor.armed = false :=
  ⟨rfl, ⟨_, rfl⟩, by decide, by decide, Nat.zero_le _, by decide, by decide, rfl⟩

theorem test_meets_StepKeepsInvariant :
    Inv (demote State.reset) ∧ ∃ t, Sys2Proof.Machine.step (demote State.reset) = .next t := by
  refine ⟨⟨?_, ?_, by decide, by decide, by decide, ?_, ?_, fun _ => rfl, fun _ => rfl, ?_, ?_⟩,
    test_demote_steps⟩
  · decide +kernel
  · decide +kernel
  · intro w h; cases h
  · intro _ h; cases h
  · exact fun r n h => BitVec.getLsbD_of_ge _ _ h
  · exact fun r n h => BitVec.getLsbD_of_ge _ _ h

theorem test_meets_RipMovesPastInstruction :
    State.reset.wait = .running ∧ ∃ t, exec (.cldemote np atRdi) State.reset = .next t :=
  ⟨rfl, test_demote_runs⟩

theorem test_meets_WhoChangesWhat :
    (∃ t, exec (.cldemote np atRdi) State.reset = .next t) ∧
    ∃ t, exec (.movdiri32 np atRdi 1) State.reset = .next t :=
  ⟨test_demote_runs, (next_of_goes (p := fun _ => true) (by decide +kernel)).imp fun _ h => h.1⟩

/-- What a step does with the bytes at RIP: the decoder's answer, and whether they are in range and unwritten. -/
def fetches (s : State) (d : Option DecErr) (n : Nat) (inside clean : Bool) : Bool :=
  let t := s.beginStep
  let answer : Option DecErr :=
    match decode t.mode t.segs.csD t.fetchBytes with
    | .ok _ => none
    | .error e => some e
  t.wait = .running && answer = d && t.ripInRange (n - 1) = inside &&
    ((List.range n).any fun k => t.written.contains (t.fetchPlace k)) = !clean

/-- Each clause: bytes outside the rows, an extension bit outside 64-bit mode, 15 prefixes, L'L = 11; each in
range and out of it, unwritten and written. -/
theorem test_meets_DecodeStops :
    let prefixes : List Byte := List.replicate 15 0x2E
    let reserved : List Byte := [0x62, 0xF2, 0x75, 0x68, 0x50, 0xC2, 0, 0, 0, 0, 0, 0, 0, 0, 0]
    let low := { State.reset with rip := 0xFFFFFFFFFFFFFFF8 }
    let stored := fun (s : State) => { s with written := [0x400005] }
    fetches (put State.reset 0x400000 [0x90]) (some .outside) 1 true true ∧
    fetches (put prot 0x400000 [0x62, 0x32, 0x35, 0x08, 0x50, 0xC2]) (some .outside) 1 true true ∧
    fetches (put { prot with segs := { prot.segs with csD := true } } 0x400000
      [0x62, 0xD2, 0x75, 0x08, 0x50, 0xC2]) (some .evexExt) 1 true true ∧
    fetches (put State.reset 0x400000 prefixes) (some .short) 15 true true ∧
    fetches (stored (put State.reset 0x400000 prefixes)) (some .short) 15 true false ∧
    fetches (put (put low 0xFFFFFFFFFFFFFFF8 (prefixes.take 8)) 0 (prefixes.take 7)) (some .short) 15
      false true ∧
    fetches (put State.reset 0x400000 reserved) (some (.ud 9)) 6 true true ∧
    fetches (stored (put State.reset 0x400000 reserved)) (some (.ud 9)) 6 true false ∧
    fetches (stored (put State.reset 0x400000 [0x62, 0xF2, 0x75, 0x08, 0x50, 0xC2])) none 6 true
      false := by
  decide +kernel

/-- The clauses about the decoder: a first byte 90H, prefixes alone, C4 and 62 strings that open no row, both
reserved forms, and an instruction of 16 bytes. -/
theorem test_meets_DecodeStops_bytes :
    scanBytes .prot none [0x67, 0x90] = ([.asize], none, [0x90]) ∧
    scanBytes .prot none [0x67] = ([.asize], none, []) ∧
    (∀ v ∈ VOp.all, v.row.suits 0xE1 0x78 0x77 = false) ∧
    (∀ e ∈ EvexSel.all, e.row.opens 0xF1 0x7C 0x10 = false) ∧
    ((0xF6 : Byte).extractLsb' 2 2 ≠ 0 ∧ (0x71 : Byte).getLsbD 2 = false) ∧
    (EvexSel.gen .vpdpbusd ∈ EvexSel.all ∧ EOp.vpdpbusd.row.suits 0xF2 0x75 0x50 0xC2 = true ∧
      (0x68 : Byte).extractLsb' 5 2 = 3) ∧
    (Instr.pconfig ⟨List.replicate 13 (.seg .cs), false⟩).form.wf .bits64 false = true ∧
    15 < (Instr.pconfig ⟨List.replicate 13 (.seg .cs), false⟩).len := by decide +kernel

theorem test_meets_LockIsUndefined :
    Prefix.lock ∈ (Instr.cldemote ⟨[.seg .gs, .lock], false⟩ atRdi).form.pfx.bytes := by decide

/-- Every kind of fault: #UD, #NM, #SS, #GP, #PF, #AC, and in real-address mode #GP without a code; a VM exit;
an abort; RESET#. -/
theorem test_meets_StopRecords :
    let f := fun (i : Instr) (s : State) => faultOf (exec i s)
    let at' := fun (s : State) => s.setGpr 7 0x7001
    let ac := State.setGpr { user with ctl := { user.ctl with cr0 := 0x40001 }, rflags := 0x40002 } 7 0x2001
    let wait : Instr := .tpause ⟨[.osize], false⟩ (.reg 1)
    f (.cldemote ⟨[.lock], false⟩ atRdi) State.reset = some (.exception .ud none none) ∧
    f (.gf2p8mulb ⟨[.osize], false⟩ 0 (.reg 1)) tsSet = some (.exception .nm none none) ∧
    f (.movdiri32 np (.base 5 (.d8 0)) 1) (State.reset.setGpr 5 0x8000000000000000) =
      some (.exception .ss (some 0) none) ∧
    f (.gf2p8mulb ⟨[.osize], false⟩ 0 (.mem atRdi)) (at' State.reset) =
      some (.exception .gp (some 0) none) ∧
    f (.movdiri32 np atRdi 1) (at' unmapped) = some (.exception .pf (some 5) (some 0x7001)) ∧
    f (.movdiri32 np atRdi 1) ac = some (.exception .ac (some 0) none) ∧
    f (.movdiri32 np (.abs16 0xFFFF) 1) real = some (.exception .gp none none) ∧
    f (.umonitor np (.reg 0)) inTx = some .txAbort ∧
    f wait { State.reset with pending := [.reset] } = some .resetSignal := by decide +kernel

theorem test_meets_UserKeepsKeys :
    user.cpl ≠ 0 ∧ user.inputs = [] ∧ ∃ t, Sys2Proof.Machine.step (demote user) = .next t :=
  ⟨by decide, rfl, (next_of_goes (p := fun _ => true) (by decide +kernel)).imp fun _ h => h.1⟩

/-! ### Witnesses: memory and addresses -/

theorem test_meets_LittleEndian :
    Memory.wf State.reset.mem ∧ (191 < 192 ∧ 7 < 8 ∧ 8 * 191 + 7 < 1536) ∧
    0x10C0 ∉ State.reset.places .write 0x1000 192 ∧ State.reset.pages = [] ∧ State.reset.racing = [] ∧
    192 ≤ 2 ^ 32 ∧ 1536 = 8 * 192 := by
  refine ⟨by decide, by decide, ?_, rfl, rfl, by decide, by decide⟩
  decide +kernel

/-- R74: two linear addresses with one place; what is stored at one is loaded at the other, and of the two
bytes of an operand that share a place the later one is there. -/
theorem test_aliased_pages :
    let s := { State.reset with pages :=
      [{ first := 0x8000, last := 0x8000, access := none, cpl := none, result := .ok 0x7000 .wb },
       { first := 0x9000, last := 0x9001, access := some .write, cpl := none,
         result := .ok 0x6FFF .wb }] }
    (s.store 0x7000 [0x5A]).load 0x8000 1 8 = 0x5A ∧ (s.store 0x9000 [1, 2]).load 0x8000 1 8 = 2 ∧
    s.places .write 0x7FFF 3 = [0x7FFF, 0x7000, 0x8001] := by decide +kernel

/-- R71: another agent's store during an instruction; MOVDIR64B finds each byte old or new. -/
theorem test_racing_store :
    let s := State.landInput { put State.reset 0x7000 [1, 2] with inputs := [.store [(0x7000, 9)]] }
    s.byteAt 0x7000 = 9 ∧ (s.readAt 0x7000 = 9 ∨ s.readAt 0x7000 = 1) ∧ s.readAt 0x7001 = 2 := by
  refine ⟨by decide +kernel, ?_, by decide +kernel⟩
  rcases State.readAt_cases
    (State.landInput { put State.reset 0x7000 [1, 2] with inputs := [.store [(0x7000, 9)]] })
    0x7000 with h | h
  · exact .inl (h.trans (by decide +kernel))
  · have e : (State.landInput { put State.reset 0x7000 [1, 2] with
        inputs := [.store [(0x7000, 9)]] }).racing = [(0x7000, 1)] := by decide +kernel
    rw [e, List.mem_singleton, Prod.mk.injEq] at h
    exact .inr h.2

theorem test_meets_SegmentedAddress :
    State.reset.mode = .bits64 ∧ prot.mode = .prot ∧ real.mode = .real ∧ v86.mode = .v86 ∧
    State.mode { State.reset with segs := { State.reset.segs with csL := false } } = .compat ∧
    State.reset.checkSegment .ss 0x7FFFFFFFFFFF 1 .read = .ok 0x7FFFFFFFFFFF ∧
    State.reset.checkSegment .ss 0x7FFFFFFFFFFF 2 .read =
      .error (.fault (.exception .ss (some 0) none)) ∧
    prot.checkSegment .ds 0xFFFFFFFF 1 .write = .ok 0xFFFFFFFF ∧
    prot.checkSegment .ds 0xFFFFFFFF 2 .write = .error prot.gp ∧
    real.checkSegment .es 0xFFFF 1 .read = .ok 0xFFFF ∧
    real.checkSegment .ss 0xFFFF 2 .read = .error (.fault (.exception .gp none none)) ∧
    v86.checkSegment .ss 0xFFFF 2 .write = .error (.fault (.exception .gp (some 0) none)) := by
  decide +kernel

theorem test_meets_AddressSize :
    (Mode.compat = .compat ∨ Mode.compat = .prot) ∧ (Mode.v86 = .real ∨ Mode.v86 = .v86) := by decide

/-- The forms and both sides of each condition: [BP + SI - 2], ESP-based truncation, and an override that
64-bit mode ignores. -/
theorem test_meets_EffectiveAddress :
    (ASize.a32 = .a64 ∧ 32 = 64 ∨ ASize.a32 = .a32 ∧ 32 = 32) ∧ State.reset.mode = .bits64 ∧
    prot.mode ≠ .bits64 ∧ np.override = none ∧ Pfx.override ⟨[.seg .fs, .seg .ss], false⟩ = some .ss ∧
    State.effAddr ((State.reset.setGpr 5 0x11).setGpr 6 0xFFFF) .a16 0 1 (.a16 2 (.d8 0xFE)) = 0x0E ∧
    State.effAddr (State.reset.setGpr 4 0xFFFFFFFFFFFFFFFF) .a32 0 1 (.sib 0 4 4 (.d8 2)) = 1 ∧
    State.reset.segOf ⟨[.seg .es], false⟩ (.base 5 (.d8 0)) = .ss := by decide +kernel

/-! ### Witnesses: vector forms -/

/-- Register operands of an EVEX form. -/
def regs (r : EvexRow) : EvexOps Rm :=
  ⟨np, 0, if r.usesV then 1 else 0, .reg 2, 0, false, false⟩

/-- The operands of `regs` with a memory source, a writemask and zeroing. -/
def mems (r : EvexRow) : EvexOps Rm :=
  { regs r with rm := .mem atRdi, aaa := if r.masking = .none then 0 else 1, z := r.masking = .kz }

def allLengths : List VL := [.v128, .v256, .v512]

theorem evexReady_of_passes {s : State} {r : EvexRow} {vl : VL} {o : EvexOps Rm}
    (h : passes (s.enterEvex r vl o) = true) : s.EvexReady r vl o :=
  State.enterEvex_ok.mp (ok_of_passes h).choose_spec

theorem vexReady_of_passes {s : State} {r : VexRow} {vl : VL} {o : VexOps}
    (h : passes (s.enterVex r vl o) = true) : s.VexReady r vl o :=
  State.enterVex_ok.mp (ok_of_passes h).choose_spec

/-- For every EVEX mnemonic and length, register and memory operands that get past the first checks and
whose source can be read: met by `EvexCompletes` in GfniEvex, VaesClmulEvex, DotProducts,
PopulationCounts, ImmediateShifts and VariableShifts, and by ShuffleBits. -/
theorem test_meets_EvexCompletes :
    ∀ e ∈ EOp.all, ∀ vl ∈ allLengths,
      (State.reset.EvexReady e.row vl (regs e.row) ∧
        ∃ v, State.reset.evexSource e.row vl (regs e.row) = .ok v) ∧
      (State.reset.EvexReady e.row vl (mems e.row) ∧
        ∃ v, State.reset.evexSource e.row vl (mems e.row) = .ok v) := by
  have h : ∀ e ∈ EOp.all, ∀ vl ∈ allLengths,
      (passes (State.reset.enterEvex e.row vl (regs e.row)) = true ∧
        passes (State.reset.evexSource e.row vl (regs e.row)) = true) ∧
      (passes (State.reset.enterEvex e.row vl (mems e.row)) = true ∧
        passes (State.reset.evexSource e.row vl (mems e.row)) = true) := by decide +kernel
  intro e he vl hv
  obtain ⟨⟨a, b⟩, c, d⟩ := h e he vl hv
  exact ⟨⟨evexReady_of_passes a, ok_of_passes b⟩, evexReady_of_passes c, ok_of_passes d⟩

/-- The same for the VEX mnemonics (GfniVex and VaesClmulVex). -/
theorem test_meets_VexCompletes :
    ∀ e ∈ VOp.all, ∀ vl ∈ [VL.v128, VL.v256], ∀ rm ∈ [Rm.reg 2, Rm.mem atRdi],
      State.reset.VexReady e.row vl ⟨np, 0, 1, rm⟩ ∧
      ∃ v, State.reset.vexSource np 5 (vlBytes vl) rm = .ok v := by
  have h : ∀ e ∈ VOp.all, ∀ vl ∈ [VL.v128, VL.v256], ∀ rm ∈ [Rm.reg 2, Rm.mem atRdi],
      passes (State.reset.enterVex e.row vl ⟨np, 0, 1, rm⟩) = true ∧
      passes (State.reset.vexSource np 5 (vlBytes vl) rm) = true := by decide +kernel
  intro e he n hn rm hr
  obtain ⟨a, b⟩ := h e he n hn rm hr
  exact ⟨vexReady_of_passes a, ok_of_passes b⟩

theorem test_meets_GfniSse :
    State.reset.SseReady ⟨[.osize], false⟩ ∧
    (∃ v, State.reset.sseSource ⟨[.osize], false⟩ 6 (.reg 1) = .ok v) ∧
    ∃ v, State.reset.sseSource ⟨[.osize], false⟩ 6 (.mem atRdi) = .ok v :=
  ⟨⟨by decide, by decide, by decide, by decide⟩, ok_of_passes (by decide +kernel),
    ok_of_passes (by decide +kernel)⟩

/-- `EvexReady` holds of no state with CR0.TS, so the two clauses exclude each other. -/
theorem test_meets_VectorFirstChecks :
    (Instr.vpdpbusd128 (regs EOp.vpdpbusd.row)).form =
      .evex EOp.vpdpbusd.row .v128 (regs EOp.vpdpbusd.row) 0 ∧
    (tsSet.EvexLegal EOp.vpdpbusd.row .v128 (regs EOp.vpdpbusd.row) ∧ tsSet.taskSwitched = true) ∧
    ¬ real.EvexLegal EOp.vpdpbusd.row .v128 (regs EOp.vpdpbusd.row) ∧
    (Instr.vaesencVex256 ⟨np, 0, 1, .reg 2⟩).form = .vex VOp.vaesenc.row true ⟨np, 0, 1, .reg 2⟩ 0 ∧
    tsSet.VexLegal VOp.vaesenc.row .v256 ⟨np, 0, 1, .reg 2⟩ ∧
    ¬ noFeatures.VexLegal VOp.vaesenc.row .v256 ⟨np, 0, 1, .reg 2⟩ :=
  ⟨rfl, ⟨⟨by decide, by decide, by decide, by decide, by decide, by decide⟩, by decide⟩,
    fun h => h.notReal (by decide), rfl, ⟨by decide, by decide, by decide, by decide, by decide, by decide⟩,
    fun h => by have := h.feature; revert this; decide⟩

/-- R6, R318: with MAXVL 128 the 128-bit VEX form of GFNI runs and the 256-bit form does not; with MAX_KL
32 no EVEX form does. -/
theorem test_register_widths :
    (let s := { State.reset with cfg := { resetParams with maxvl := .v128 } }
     passes (s.enterVex VOp.vgf2p8mulb.row .v128 ⟨np, 0, 1, .reg 2⟩) = true ∧
      passes (s.enterVex VOp.vgf2p8mulb.row .v256 ⟨np, 0, 1, .reg 2⟩) = false) ∧
    (let s := { State.reset with cfg := { resetParams with maxKl := 32 } }
     passes (s.enterEvex EOp.vaesenc.row .v256 (regs EOp.vaesenc.row)) = false ∧
      passes (s.enterVex VOp.vaesenc.row .v256 ⟨np, 0, 1, .reg 2⟩) = true) := by decide

theorem test_meets_SseChecks :
    noFeatures.hasAll [.gfni] = false ∧
    State.hasAll tsSet [.gfni] = true ∧ tsSet.sseEnabled = true ∧ tsSet.taskSwitched = true ∧
    (let s := State.reset.setGpr 7 0x2001
     s.SseReady ⟨[.osize], false⟩ ∧
      s.segOk (s.segOf ⟨[.osize], false⟩ atRdi) (s.operandAddr ⟨[.osize], false⟩ 4 1 atRdi) 16 .read = true ∧
      (s.linear (s.segOf ⟨[.osize], false⟩ atRdi)
        (s.operandAddr ⟨[.osize], false⟩ 4 1 atRdi)).toNat % 16 ≠ 0) :=
  ⟨by decide, by decide, by decide, by decide, ⟨by decide, by decide, by decide, by decide⟩,
    by decide +kernel, by decide +kernel⟩

/-- Met by the memory clauses of VectorSource: SSE, VEX, EVEX and broadcast of 4 and 8 bytes. -/
theorem test_meets_VectorSource :
    let s := State.reset.setGpr 7 0x2000
    let ok := fun (ea : Word) (n : Nat) =>
      s.segOk .ds ea n .read = true ∧ s.pageFault .read (s.span (s.linear .ds ea) n) = none
    s.segOf np atRdi = .ds ∧ ok (s.operandAddr np 5 1 atRdi) 16 ∧
    (s.linear .ds (s.operandAddr np 5 1 atRdi)).toNat % 16 = 0 ∧
    ok (s.operandAddr np 5 1 atRdi) 64 ∧
    ok (s.evexAddr EOp.vpopcntd.row .v512 { mems EOp.vpopcntd.row with aaa := 0 } atRdi) 64 ∧
    ok (s.evexAddr EOp.vpopcntd.row .v512 { mems EOp.vpopcntd.row with b := true } atRdi) 4 ∧
    ok (s.evexAddr EOp.vpopcntq.row .v512 { mems EOp.vpopcntq.row with b := true } atRdi) 8 ∧
    EOp.vpopcntd.row.bcst = 4 ∧ EOp.vpopcntq.row.bcst = 8 := by decide +kernel

/-- VPOPCNTD with only element 0 active at 6FFCH, the rest of the operand unmapped; and, with broadcast, no
element active and the operand unmapped. -/
theorem test_meets_FaultSuppression :
    let s := (unmapped.setGpr 7 0x6FFC).setK 1 1
    let o := mems EOp.vpopcntd.row
    let g := s.segOf o.pfx atRdi
    let ea := fun (j : Nat) => s.evexAddr EOp.vpopcntd.row .v128 o atRdi + BitVec.ofNat 64 (j * 4)
    (o.rm = .mem atRdi ∧ o.b = false ∧ s.suppresses EOp.vpopcntd.row = true ∧ o.aaa ≠ 0 ∧
      ∀ j, j < vlBytes .v128 / 4 → (s.kAt o.aaa).getLsbD j = true →
        s.segOk g (ea j) 4 .read = true ∧
        s.pageFault .read (s.span (s.linear g (ea j)) 4) = none) ∧
    ∀ j, j < vlBytes .v128 / 4 → ((unmapped.setK 1 0).kAt 1).getLsbD j = false := by
  decide +kernel

/-- Whether a piece of an operand faults by its segment, and whether by a page, the first at an address. -/
def segBad (s : State) (g : SegReg) (ea : Word) (n : Nat) : Bool := !s.segOk g ea n .read

def pageBad (s : State) (g : SegReg) (ea : Word) (n : Nat) (a : Nat) : Bool :=
  s.segOk g ea n .read && decide (s.pageFault .read (s.span (s.linear g ea) n) = some (a, 5))

/-- Each clause with a non-canonical address and with an unmapped byte: GF2P8MULB; VAESENC (VEX); VAESENC
(EVEX); VPOPCNTD without writemask, with broadcast, and with element 1 the first active one. -/
theorem test_meets_VectorMemoryFaults :
    let s := unmapped.setGpr 7 0x7000
    let below := ((unmapped.setGpr 7 0x6FFC).setK 1 2)
    let none := State.reset.setGpr 7 0x7FFFFFFFFFF0
    let off := State.reset.setGpr 7 0x8000000000000000
    let p : Pfx := ⟨[.osize], false⟩
    let ea := fun (s : State) (r : EvexRow) => s.evexAddr r .v256 (mems r) atRdi
    (passes (s.enterSse p [.gfni]) = true ∧ (s.linear .ds (s.operandAddr p 5 1 atRdi)).toNat % 16 = 0 ∧
      pageBad s .ds (s.operandAddr p 5 1 atRdi) 16 0x7000 ∧ segBad off .ds (off.operandAddr p 5 1 atRdi) 16) ∧
    (passes (s.enterVex VOp.vaesenc.row .v256 ⟨np, 0, 1, .mem atRdi⟩) = true ∧
      pageBad s .ds (s.operandAddr np 5 1 atRdi) 32 0x7000 ∧
      segBad none .ds (none.operandAddr np 5 1 atRdi) 32) ∧
    (passes (s.enterEvex EOp.vaesenc.row .v256 (mems EOp.vaesenc.row)) = true ∧
      s.suppresses EOp.vaesenc.row = false ∧ pageBad s .ds (ea s EOp.vaesenc.row) 32 0x7000 ∧
      segBad none .ds (ea none EOp.vaesenc.row) 32) ∧
    (passes (s.enterEvex EOp.vpopcntd.row .v256 { mems EOp.vpopcntd.row with b := true }) = true ∧
      s.suppresses EOp.vpopcntd.row = true ∧ (s.setK 1 0x80).active 1 7 = true ∧
      pageBad s .ds (s.evexAddr EOp.vpopcntd.row .v256 { mems EOp.vpopcntd.row with b := true } atRdi) 4
        0x7000) ∧
    (passes (below.enterEvex EOp.vpopcntd.row .v256 (mems EOp.vpopcntd.row)) = true ∧
      below.active 1 1 = true ∧ below.active 1 0 = false ∧
      pageBad below .ds (ea below EOp.vpopcntd.row + BitVec.ofNat 64 4) 4 0x7000) ∧
    (∀ e ∈ POp.all, let o : EvexOps Mem := ⟨np, 0, 0, atRdi, 1, false, false⟩
      passes (below.enterEvex e.memRow .v256 o.anyMem) = true ∧
      pageBad (s.setK 1 1) .ds (s.evexAddr e.memRow .v256 o.anyMem atRdi) e.memRow.elem 0x7000) := by
  decide +kernel

/-- R66, R319: in real-address mode an operand in SS past FFFFH is #GP. -/
theorem test_real_ss :
    faultOf (exec (.gf2p8mulb ⟨[.osize, .seg .ss], false⟩ 0 (.mem (.abs16 0xFFF8))) real) =
      some (.exception .gp none none) := by decide +kernel

/-- For every form of VPCOMPRESS and VPEXPAND with a register: met by CompressToRegister and
ExpandFromRegister. -/
theorem test_meets_CompressToRegister :
    ∀ e ∈ POp.all, ∀ vl ∈ allLengths,
      State.reset.EvexReady e.regRow vl (EvexOps.anyReg ⟨np, 0, 0, 2, 1, true, false⟩) := by
  have h : ∀ e ∈ POp.all, ∀ vl ∈ allLengths, passes (State.reset.enterEvex e.regRow vl
      (EvexOps.anyReg ⟨np, 0, 0, 2, 1, true, false⟩)) = true := by decide +kernel
  exact fun e he vl hv => evexReady_of_passes (h e he vl hv)

/-- For every memory form, met by CompressToMemory and ExpandFromMemory: operands past the first checks, with no element active at a non-canonical
address, and with 3 elements active just below an unmapped page. -/
theorem test_meets_CompressToMemory :
    Memory.wf unmapped.mem ∧ ∀ e ∈ POp.all, ∀ vl ∈ allLengths, ∀ acc ∈ [Access.read, Access.write],
      let o : EvexOps Mem := ⟨np, 0, 0, atRdi, 1, false, false⟩
      let s := (unmapped.setGpr 7 (BitVec.ofNat 64 (0x7000 - 3 * e.memRow.elem))).setK 1 0x15
      let none := (unmapped.setGpr 7 0x8000000000000000).setK 1 0
      unmapped.EvexReady e.memRow vl o.anyMem ∧ none.touched e.memRow vl o.aaa = 0 ∧
      s.touched e.memRow vl o.aaa = 3 * e.memRow.elem ∧
      s.segOk (s.segOf o.pfx o.rm) (s.evexAddr e.memRow vl o.anyMem o.rm)
        (s.touched e.memRow vl o.aaa) acc = true ∧
      s.pageFault acc (s.span (s.denseAddr e.memRow vl o) (s.touched e.memRow vl o.aaa)) = .none := by
  refine ⟨by decide, ?_⟩
  have h : ∀ e ∈ POp.all, ∀ vl ∈ allLengths, ∀ acc ∈ [Access.read, Access.write],
      let o : EvexOps Mem := ⟨np, 0, 0, atRdi, 1, false, false⟩
      let s := (unmapped.setGpr 7 (BitVec.ofNat 64 (0x7000 - 3 * e.memRow.elem))).setK 1 0x15
      let none := (unmapped.setGpr 7 0x8000000000000000).setK 1 0
      passes (unmapped.enterEvex e.memRow vl o.anyMem) = true ∧ none.touched e.memRow vl o.aaa = 0 ∧
      s.touched e.memRow vl o.aaa = 3 * e.memRow.elem ∧
      s.segOk (s.segOf o.pfx o.rm) (s.evexAddr e.memRow vl o.anyMem o.rm)
        (s.touched e.memRow vl o.aaa) acc = true ∧
      s.pageFault acc (s.span (s.denseAddr e.memRow vl o) (s.touched e.memRow vl o.aaa)) = .none := by
    decide +kernel
  intro e he vl hv acc ha
  obtain ⟨a, b⟩ := h e he vl hv acc ha
  exact ⟨evexReady_of_passes a, b⟩

theorem test_meets_AffineByte : 7 < 8 := by decide

theorem test_meets_FieldInverseAndProduct : (0xFF : Byte) ≠ 0 := by decide

theorem test_meets_EncryptionRound : 3 < 4 ∧ 0 < 4 := by decide

theorem test_meets_CarrylessProduct : 127 < 128 := by decide

theorem test_meets_ConcatenatedShifts : 15 < 16 ∧ 0 < 16 := by decide

/-! ### Witnesses: direct stores and caches -/

/-- MOVDIRI at the boundary of alignment, of the unmapped page and of both. -/
theorem test_meets_Movdiri :
    ∀ n ∈ [4, 8],
      let i : Instr := if n = 4 then .movdiri32 np atRdi 1 else .movdiri64 np atRdi 1
      let s := unmapped.setGpr 7 (BitVec.ofNat 64 (0x7000 - n))
      let la := s.linear (s.segOf np atRdi) (s.operandAddr np i.len 1 atRdi)
      s.DirectReady np .movdiri ∧ np.has .osize = false ∧ Memory.wf s.mem ∧
      s.segOk (s.segOf np atRdi) (s.operandAddr np i.len 1 atRdi) n .write = true ∧
      (s.alignChecked = true → la.toNat % n = 0) ∧ s.pageFault .write (s.span la n) = none := by
  have h : ∀ n ∈ [4, 8],
      let i : Instr := if n = 4 then .movdiri32 np atRdi 1 else .movdiri64 np atRdi 1
      let s := unmapped.setGpr 7 (BitVec.ofNat 64 (0x7000 - n))
      let la := s.linear (s.segOf np atRdi) (s.operandAddr np i.len 1 atRdi)
      (np.has .lock = false ∧ s.hasAll [.movdiri] = true ∧ s.inTx = false) ∧
      np.has .osize = false ∧ Memory.wf s.mem ∧
      s.segOk (s.segOf np atRdi) (s.operandAddr np i.len 1 atRdi) n .write = true ∧
      (s.alignChecked = true → la.toNat % n = 0) ∧ s.pageFault .write (s.span la n) = none := by
    decide +kernel
  exact fun n hn => ⟨⟨(h n hn).1.1, (h n hn).1.2.1, (h n hn).1.2.2⟩, (h n hn).2⟩

theorem test_meets_Movdir64b :
    let s := (unmapped.setGpr 7 0x6FC0).setGpr 0 0x6F80
    let p : Pfx := ⟨[.osize], false⟩
    let ea := s.operandAddr p 4 1 atRdi
    let dea := truncA (s.asize p) (s.gprAt 0)
    s.DirectReady p .movdir64b ∧ Memory.wf s.mem ∧
    s.segOk (s.segOf p atRdi) ea 64 .read = true ∧ s.segOk .es dea 64 .write = true ∧
    dea.toNat % 64 = 0 ∧ s.pageFault .read (s.span (s.linear (s.segOf p atRdi) ea) 64) = none ∧
    s.pageFault .write (s.span (s.linear .es dea) 64) = none :=
  ⟨⟨by decide, by decide, by decide⟩, by decide, by decide +kernel, by decide +kernel,
    by decide +kernel, by decide +kernel, by decide +kernel⟩

/-- Each clause: 66, no flag, a transaction; MOVDIRI's #AC, #PF (alignment not checked, and checked with the
operand aligned) and segment fault; MOVDIR64B's five in their order. -/
theorem test_meets_DirectStoreStops :
    let ac := State.setGpr { user with ctl := { user.ctl with cr0 := 0x40001 }, rflags := 0x40002 } 7 0x2001
    let acPage := { ac with pages := unmapped.pages }.setGpr 7 0x7000
    let page := unmapped.setGpr 7 0x6FFD
    let off := State.reset.setGpr 7 0x8000000000000000
    let ea := fun (s : State) => s.operandAddr np 4 1 atRdi
    let dea := fun (s : State) => truncA (s.asize np) (s.gprAt 0)
    Pfx.has ⟨[.osize], false⟩ .osize = true ∧ noFeatures.hasAll [.movdiri] = false ∧
    (inTx.hasAll [.movdiri] = true ∧ inTx.inTx = true) ∧
    (ac.ctl.cr0.getLsbD 18 = true ∧ ac.rflags.getLsbD 18 = true ∧ ac.cpl = 3 ∧
      ac.segOk .ds (ea ac) 4 .write = true ∧ (ac.linear .ds (ea ac)).toNat % 4 ≠ 0 ∧
      ac.pageFault .write (ac.span 0x2001 4) = none) ∧
    (page.alignChecked = false ∧ page.segOk .ds (ea page) 4 .write = true ∧
      page.pageFault .write (page.span (page.linear .ds (ea page)) 4) = some (0x7000, 5)) ∧
    (acPage.alignChecked = true ∧ (acPage.linear .ds (ea acPage)).toNat % 4 = 0 ∧
      acPage.segOk .ds (ea acPage) 4 .write = true ∧
      acPage.pageFault .write (acPage.span 0x7000 4) = some (0x7000, 5)) ∧
    off.segOk .ds (ea off) 4 .write = false ∧
    (noFeatures.hasAll [.movdir64b] = false ∧ inTx.hasAll [.movdir64b] = true) ∧
    off.segOk .ds (ea off) 64 .read = false ∧
    (let s := off.setGpr 0 0x8000000000000000
     let t := s.setGpr 7 0x2000
     t.segOk .ds (ea t) 64 .read = true ∧ t.segOk .es (dea t) 64 .write = false) ∧
    (let s := State.reset.setGpr 0 0x2020
     s.segOk .es (dea s) 64 .write = true ∧ (s.gprAt 0).toNat % 64 ≠ 0) ∧
    (let s := (unmapped.setGpr 7 0x6FFF).setGpr 0 0x2000
     s.segOk .es (dea s) 64 .write = true ∧ (s.gprAt 0).toNat % 64 = 0 ∧
      pageBad s .ds (ea s) 64 0x7000) ∧
    (let s := (unmapped.setGpr 7 0x2000).setGpr 0 0x7000
     s.segOk .ds (ea s) 64 .read = true ∧ s.pageFault .read (s.span 0x2000 64) = none ∧
      s.segOk .es (dea s) 64 .write = true ∧
      s.pageFault .write (s.span 0x7000 64) = some (0x7000, 5)) := by
  decide +kernel

theorem test_meets_Cldemote :
    np.has .lock = false ∧ noFeatures.hasAll [.cldemote] = false ∧ State.reset.inTx = false ∧
    inTx.cfg.cldemoteAbortsTsx = false ∧
    (let s := { inTx with cfg := { inTx.cfg with cldemoteAbortsTsx := true } }
     s.hasAll [.cldemote] = true ∧ s.inTx = true ∧ s.cfg.cldemoteAbortsTsx = true) := by decide

/-- R140, R342: whichever the free value is, one of the two clauses of CLDEMOTE in a transaction is met. -/
theorem test_cldemote_cases (n : Nat) :
    Config.cldemoteAborts n = true ∨ Config.cldemoteAborts n = false := by
  cases Config.cldemoteAborts n <;> simp

theorem test_meets_Wbnoinvd :
    noFeatures.hasAll [.wbnoinvd] = false ∧ State.reset.hasAll [.wbnoinvd] = true ∧
    user.cpl ≠ 0 ∧ v86.mode = .v86 ∧ State.reset.cpl = 0 ∧ real.cpl = 0 ∧
    State.reset.inGuest = false ∧ State.reset.inTx = false ∧
    (inVmx.cpl = 0 ∧ inVmx.inGuest = true) ∧ (inTx.cpl = 0 ∧ inTx.inGuest = false ∧ inTx.inTx = true) := by
  decide

/-! ### Witnesses: PCONFIG -/

/-- A structure at 1000H: KeyID 1, a command, algorithm 1, first bytes of the two keys 11H and 22H. -/
def keys (id cmd alg : Byte) : State :=
  { (put (put (put State.reset 0x1000 [id, 0, cmd, alg, 0]) 0x1040 [0x11]) 0x1080 [0x22]).setGpr 3
      0x1000 with
    msr := { State.reset.msr with tmeLock := true, tmeEnable := true, tmeKeyidBits := 6,
                                  tmeCryptoAlgs := 1, tmeMaxKeys := 63 } }

theorem pconfigReady_keys (cmd : Byte) (h : passes ((keys 63 cmd 1).enterPconfig np) = true) :
    (keys 63 cmd 1).PconfigReady np :=
  State.enterPconfig_ok.mp (ok_of_passes h).choose_spec

theorem keyStructAt_keys {s : State} {la : Word} (h : passes s.checkKeyStruct = true)
    (hl : s.linear .ds s.keyAddr = la)
    (hr : (reservedBytes (s.keyStruct la)).any (· ≠ 0) = false) : s.KeyStructAt la := by
  obtain ⟨a, ha⟩ := ok_of_passes h
  obtain ⟨h1, h2, h3, h4⟩ := State.checkKeyStruct_ok.mp ha
  obtain rfl : a = la := h2 ▸ hl
  exact ⟨h1, h2, h3, h4, (s.reservedBytes_zero a).mp hr⟩

/-- Commands 0, 2 and 3 with the largest KeyID of 6 bits, and command 1 but for its draws. -/
theorem test_meets_PconfigProgramsKey :
    ∀ cmd ∈ ([0, 1, 2, 3] : List Byte),
      let s := keys 63 cmd 1
      s.PconfigReady np ∧ s.KeyStructAt 0x1000 ∧ KeyTable.wf s.keyTable ∧
      (s.load (0x1000 + 2) 1 8).toNat ≤ 3 ∧ 0 < (s.load 0x1000 2 16).toNat ∧
      (s.load 0x1000 2 16).toNat < 2 ^ s.msr.tmeKeyidBits.toNat ∧
      (s.load 0x1000 2 16).toNat ≤ s.msr.tmeMaxKeys.toNat ∧
      s.load (0x1000 + 3) 2 16 = BitVec.twoPow 16 0 ∧ s.msr.tmeCryptoAlgs.getLsbD 0 = true ∧
      s.keyLock = .unlocked := by
  have h : ∀ cmd ∈ ([0, 1, 2, 3] : List Byte),
      let s := keys 63 cmd 1
      passes (s.enterPconfig np) = true ∧
      (passes s.checkKeyStruct = true ∧ s.linear .ds s.keyAddr = 0x1000 ∧
        (reservedBytes (s.keyStruct 0x1000)).any (· ≠ 0) = false) ∧ KeyTable.wf s.keyTable ∧
      (s.load (0x1000 + 2) 1 8).toNat ≤ 3 ∧ 0 < (s.load 0x1000 2 16).toNat ∧
      (s.load 0x1000 2 16).toNat < 2 ^ s.msr.tmeKeyidBits.toNat ∧
      (s.load 0x1000 2 16).toNat ≤ s.msr.tmeMaxKeys.toNat ∧
      s.load (0x1000 + 3) 2 16 = BitVec.twoPow 16 0 ∧ s.msr.tmeCryptoAlgs.getLsbD 0 = true ∧
      s.keyLock = .unlocked := by decide +kernel
  intro cmd hc
  obtain ⟨r, ⟨a, b, c⟩, d⟩ := h cmd hc
  exact ⟨pconfigReady_keys _ r, keyStructAt_keys a b c, d⟩

/-- The draws are free values: for each `n` one of the two entropy clauses has its hypothesis met. -/
theorem test_entropy_cases (n : Nat) :
    (Config.entropy n).isSome ∧ (Config.entropy (n + 1)).isSome ∨
      Config.entropy n = none ∨ Config.entropy (n + 1) = none := by
  cases Config.entropy n <;> cases Config.entropy (n + 1) <;> simp

/-- Each failure code: command 4; KeyID 0 and 64; no algorithm and one that is not supported; the lock held. -/
theorem test_meets_PconfigStatus :
    let cmd := fun (s : State) => (s.load (0x1000 + 2) 1 8).toNat
    let id := fun (s : State) => (s.load 0x1000 2 16).toNat
    let alg := fun (s : State) => s.load (0x1000 + 3) 2 16
    let good := fun (s : State) => cmd s ≤ 3 ∧ id s ≤ 63 ∧ id s ≠ 0
    let held := { keys 1 0 1 with keyLock := .exclusive (.other 1) }
    (∀ s ∈ [keys 1 4 1, keys 0 0 1, keys 64 0 1, keys 1 0 0, keys 1 0 2, keys 1 1 1, held],
      passes (s.enterPconfig np) = true ∧ passes s.checkKeyStruct = true ∧ s.linear .ds s.keyAddr = 0x1000 ∧
        (reservedBytes (s.keyStruct 0x1000)).any (· ≠ 0) = false) ∧
    3 < cmd (keys 1 4 1) ∧ (cmd (keys 0 0 1) ≤ 3 ∧ id (keys 0 0 1) = 0) ∧
    (cmd (keys 64 0 1) ≤ 3 ∧ 2 ^ 6 - 1 < id (keys 64 0 1)) ∧
    (good (keys 1 0 0) ∧ ∀ b, b < 16 → alg (keys 1 0 0) ≠ BitVec.twoPow 16 b) ∧
    (good (keys 1 0 2) ∧ alg (keys 1 0 2) &&& (keys 1 0 2).msr.tmeCryptoAlgs = 0) ∧
    (good held ∧ alg held = BitVec.twoPow 16 0 ∧ held.keyLock ≠ .unlocked) ∧
    (good (keys 1 1 1) ∧ cmd (keys 1 1 1) = 1 ∧ (keys 1 1 1).keyLock = .unlocked) := by
  decide +kernel

/-- VMX non-root operation with PCONFIG enabled and the given exiting bits. -/
def guest (exiting : Word) (eax : Word) : State :=
  State.setGpr { keys 1 0 1 with
    cfg := { resetParams with hasVmx := true }
    vmx := { State.reset.vmx with nonRoot := true, pconfigEnable := true, pconfigExiting := exiting } }
    0 eax

/-- R192: PCONFIG completes in VMX non-root operation with the exiting bit of leaf 0 clear, and with it set
is the VM exit, which R46 has written to EXIT_REASON. -/
theorem test_pconfig_guest :
    passes ((guest 0xFFFFFFFFFFFFFFFE 0).enterPconfig np) = true ∧
    faultOf (exec (.pconfig np) (guest 1 0)) = some (.vmExit .pconfig) ∧
    ((guest 1 0).recordStop (.vmExit .pconfig)).vmx.exitReason = 65 := by decide +kernel

theorem test_meets_PconfigStops :
    let defined := fun (s : State) => s.mode ≠ .v86 ∧ s.hasAll [.pconfig] = true ∧ s.cpl = 0
    let usable := fun (s : State) =>
      s.eax = 0 ∧ s.msr.tmeLock = true ∧ s.msr.tmeEnable = true ∧ s.msr.tmeKeyidBits ≠ 0
    let g := guest 0x8000000000000001
    (v86.mode = .v86 ∧ user.cpl ≠ 0 ∧ noFeatures.hasAll [.pconfig] = false ∧ inVmx.inGuest = true ∧
      inVmx.vmx.pconfigEnable = false) ∧
    (defined (g 0) ∧ (g 0).inGuest = true ∧ (g 0).eax.toNat < 63 ∧
      (g 0).vmx.pconfigExiting.getLsbD (g 0).eax.toNat = true) ∧
    (defined (g 63) ∧ 62 < (g 63).eax.toNat ∧ (g 63).vmx.pconfigExiting.getLsbD 63 = true) ∧
    (defined (g 62) ∧ (g 62).eax.toNat < 63 ∧ (g 62).eax ≠ 0 ∧
      (g 62).vmx.pconfigExiting.getLsbD (g 62).eax.toNat = false) ∧
    (defined State.reset ∧ State.reset.inGuest = false ∧ State.reset.msr.tmeLock = false) ∧
    (defined ((keys 1 0 1).setGpr 0 1) ∧ ((keys 1 0 1).setGpr 0 1).eax ≠ 0) ∧
    (let s := { keys 1 0 1 with cfg := inTx.cfg, tsx := inTx.tsx }
     defined s ∧ usable s ∧ s.inGuest = false ∧ s.inTx = true) ∧
    (let s := (keys 1 0 1).setGpr 3 0x8000000000000000
     passes (s.enterPconfig np) = true ∧ s.segOk .ds s.keyAddr 192 .read = false) ∧
    (let s := (keys 1 0 1).setGpr 3 0x1080
     s.segOk .ds s.keyAddr 192 .read = true ∧ (s.linear .ds s.keyAddr).toNat % 256 ≠ 0) ∧
    (let s := { keys 1 0 1 with pages := unmapped.pages }.setGpr 3 0x7F00
     passes (s.enterPconfig np) = true ∧ s.segOk .ds s.keyAddr 192 .read = true ∧
      (s.linear .ds s.keyAddr).toNat % 256 = 0 ∧
      s.pageFault .read (s.span 0x7F00 192) = some (0x7F00, 5)) ∧
    (let s := put (keys 1 0 1) 0x10BF [1]
     s.segOk .ds s.keyAddr 192 .read = true ∧ s.linear .ds s.keyAddr = 0x1000 ∧
      s.pageFault .read (s.span 0x1000 192) = none ∧ s.readAt (s.byteAddr 0x1000 191) ≠ 0) := by
  decide +kernel

/-! ### Witnesses: UMONITOR, TPAUSE, UMWAIT -/

theorem test_meets_Umonitor :
    let s := unmapped.setGpr 0 0x6FFF
    let p : Pfx := ⟨[.rep], false⟩
    p.has .lock = false ∧ s.hasAll [.waitpkg] = true ∧ s.inTx = false ∧
    s.segOk (p.override.getD .ds) (truncA (s.asize p) (s.gprAt 0)) 1 .read = true ∧
    s.pageFault .read (s.span (s.linear .ds 0x6FFF) 1) = none := by decide +kernel

/-- Each clause: no flag; a control word of 2; UMONITOR in SS past FFFFH in real-address mode, with a null SS,
outside SS, on an unmapped byte; the aborts. -/
theorem test_meets_WaitpkgStops :
    let nullSs := { prot with segs := { prot.segs with ss := { flatSegment with null := true } } }
    let ea := fun (s : State) => truncA (s.asize np) (s.gprAt 0)
    noFeatures.hasAll [.waitpkg] = false ∧ State.reset.hasAll [.waitpkg] = true ∧
    (((State.reset.setGpr 1 2).gprAt 1).setWidth 32 : BitVec 32).toNat ≥ 2 ∧
    (real.mode = .real ∧ Pfx.override ⟨[.rep, .seg .ss], false⟩ = some .ss ∧
      real.segOk .ss 0xFFFF 1 .read = true ∧
      real.segOk .ss (truncA (real.asize ⟨[.asize], false⟩) ((real.setGpr 0 0x10000).gprAt 0)) 1 .read =
        false) ∧
    (nullSs.mode = .prot ∧ (nullSs.seg .ss).null = true ∧ nullSs.segOk .ss (ea nullSs) 1 .read = false) ∧
    (let s := State.reset.setGpr 0 0x8000000000000000
     s.segOk .ds (ea s) 1 .read = false) ∧
    (let s := unmapped.setGpr 0 0x7000
     s.segOk .ds (ea s) 1 .read = true ∧ s.pageFault .read (s.span 0x7000 1) = some (0x7000, 5)) ∧
    inTx.hasAll [.waitpkg] = true ∧ inTx.inTx = true ∧ inTx.segOk .ds (ea inTx) 1 .read = true ∧
    inTx.pageFault .read (inTx.span 0 1) = none ∧ inTx.WaitReady ⟨[.repne], false⟩ 1 :=
  ⟨by decide, by decide, by decide, by decide +kernel, by decide +kernel, by decide +kernel,
    by decide +kernel, by decide, by decide, by decide +kernel, by decide +kernel,
    ⟨by decide, by decide, by decide⟩⟩

/-- D25: in a transaction UMONITOR checks its address before it aborts. -/
theorem test_umonitor_abort_last :
    faultOf (exec (.umonitor np (.reg 0)) (inTx.setGpr 0 0x8000000000000000)) =
      some (.exception .gp (some 0) none) ∧
    faultOf (exec (.umonitor np (.reg 0)) inTx) = some .txAbort := by decide +kernel

theorem test_meets_Deadline :
    let lim := fun (v : BitVec 32) => { State.reset.setGpr 0 100 with msr := { State.reset.msr with umwaitControl := v } }
    let limit := fun (s : State) => (s.msr.umwaitControl &&& 0xFFFFFFFC).toNat
    limit (lim 3) = 0 ∧ (limit (lim 99) ≠ 0 ∧ (lim 99).tsc.toNat + limit (lim 99) < 100) ∧
    (limit (lim 100) ≠ 0 ∧ 100 ≤ (lim 100).tsc.toNat + limit (lim 100)) := by decide +kernel

theorem test_meets_RequestedState :
    State.reset.hasAll [.waitpkg] = true ∧ (0 < 31 ∧ (0x80000000 : BitVec 32).getLsbD 31 = true) := by
  decide

theorem test_meets_Tpause :
    State.reset.WaitReady ⟨[.osize], false⟩ 1 ∧ Event.reset ∉ State.reset.pending ∧
    State.reset.deadline.1 ≤ State.reset.tsc.toNat :=
  ⟨⟨by decide, by decide, by decide⟩, by decide, by decide +kernel⟩

theorem test_meets_Umwait :
    let s := { State.reset with monitor := { armed := true, addr := 0x5000, setBy := .umonitor } }
    s.WaitReady ⟨[.repne], false⟩ 1 ∧ s.inTx = false ∧ Event.reset ∉ s.pending ∧
    State.reset.monitor.armed = false ∧ s.monitor.armed = true :=
  ⟨⟨by decide, by decide, by decide⟩, by decide, by decide, by decide, by decide⟩

/-- No linear address up to 2^64 translates. -/
def nowhere : State :=
  { State.reset with
    pages := [{ first := 0, last := 2 ^ 64, access := none, cpl := none, result := .fault 4 }] }

theorem place_nowhere {acc : Access} {a pa : Nat} {t : MemType}
    (h : nowhere.translate acc a = .ok pa t) : 2 ^ 64 < pa := by
  have hm : nowhere.mode ≠ .real := by decide
  have hp : nowhere.pages =
    [{ first := 0, last := 2 ^ 64, access := none, cpl := none, result := .fault 4 }] := rfl
  have hc : PageRule.covers { first := 0, last := 2 ^ 64, access := none, cpl := none, result := .fault 4 }
      acc nowhere.cpl a = decide (a ≤ 2 ^ 64) := by simp [PageRule.covers]
  rw [State.translate, hp, List.find?_cons, hc] at h
  by_cases ha : a ≤ 2 ^ 64
  · rw [decide_eq_true ha] at h
    simp [hm] at h
  · rw [decide_eq_false ha] at h
    cases h
    omega

/-- A read-only write-back page, as the store's place; and a state where no address has a place below 2^64. -/
theorem test_meets_StoreTriggersMonitor :
    let s := { State.reset with
      monitor := { armed := true, addr := 0x5000, setBy := .umonitor }
      pages := [{ first := 0x5000, last := 0x5FFF, access := some .write, cpl := none,
                  result := .fault 7 }] }
    s.monitor.armed = true ∧ s.translate .read s.monitor.addr.toNat = .ok 0x5000 .wb ∧
    s.translate .write s.monitor.addr.toNat = .fault 7 ∧ 0x5000 ∈ [0x4FFF, 0x5000] ∧
    ∀ a acc pa t, nowhere.monitor.covers a = true → nowhere.translate acc a = .ok pa t →
      pa ∉ [0x5000] := by
  refine ⟨rfl, by decide, by decide, by decide, fun a acc pa t _ h => ?_⟩
  have := place_nowhere h
  simp only [List.mem_singleton]
  omega

end Sys2Proof.Test
end

section
/-! PROOFS. Encoding: the address size (R100), and the byte F0 (LOCK), which every instruction refuses in its
first check (R92). -/

namespace Sys2Proof

/-! ### The bytes before the opcode -/

theorem Pfx.has_iff {p : Pfx} {x : Prefix} : p.has x = true ↔ x ∈ p.bytes := by
  simp [Pfx.has]

/-- LOCK is among the bytes that may not stand before VEX or EVEX bytes (R94). -/
theorem badBeforeVector_of_lock {p : Pfx} (h : .lock ∈ p.bytes) : badBeforeVector p = true := by
  simp [badBeforeVector, Pfx.has_iff.mpr h]

/-! ### The address size -/

theorem addrSize_bits64 (csD : Bool) (p : Pfx) :
    addrSize .bits64 csD p = if .asize ∈ p.bytes then .a32 else .a64 := by
  simp only [addrSize, Pfx.has_iff]

/-- In the modes with a CS.D that counts, 67 asks for the size that CS.D does not. -/
theorem addrSize_compat_or_prot {m : Mode} (h : m = .compat ∨ m = .prot) (csD : Bool) (p : Pfx) :
    addrSize m csD p =
      if csD then (if .asize ∈ p.bytes then .a16 else .a32)
      else (if .asize ∈ p.bytes then .a32 else .a16) := by
  rcases h with rfl | rfl <;> simp only [addrSize, Pfx.has_iff]

theorem addrSize_real_or_v86 {m : Mode} (h : m = .real ∨ m = .v86) (csD : Bool) (p : Pfx) :
    addrSize m csD p = if .asize ∈ p.bytes then .a32 else .a16 := by
  rcases h with rfl | rfl <;> simp only [addrSize, Pfx.has_iff]

/-- Settles O4, from the equation of `addrSize` in each kind of mode. -/
theorem addressSize : Obligations.AddressSize := fun csD p =>
  ⟨addrSize_bits64 csD p,
    fun _ h => ⟨addrSize_compat_or_prot h true p, addrSize_compat_or_prot h false p⟩,
    fun _ h => addrSize_real_or_v86 h csD p⟩

end Sys2Proof

namespace Sys2Proof.Machine

/-! ### A first check that answers #UD -/

/-- A meaning whose first part stops with #UD is #UD without an error code, whatever comes after it. -/
theorem finish_bind_ud {α : Type} {s : State} {x : Except Stop α} {f : α → Except Stop State}
    (h : x = .error s.ud) : finish (x >>= f) = .fault (.exception .ud none none) := by
  rw [h, error_bind, finish_fault, s.ud_eq]

theorem stopIf_bind_error {α : Type} {c : Bool} {e : Stop} {f : Unit → Except Stop α} (h : c = true) :
    (stopIf c e >>= f) = .error e := by
  rw [h, stopIf_true, error_bind]

/-! ### The first checks with LOCK before the opcode -/

section
variable {p : Pfx}

theorem stopIf_lock (s : State) (h : .lock ∈ p.bytes) : stopIf (p.has .lock) s.ud = .error s.ud := by
  rw [Pfx.has_iff.mpr h, stopIf_true]

theorem State.enterSse_lock (s : State) (h : .lock ∈ p.bytes) (fs : List Feature) :
    s.enterSse p fs = .error s.ud :=
  stopIf_bind_error (Pfx.has_iff.mpr h)

theorem State.enterDirect_lock (s : State) (h : .lock ∈ p.bytes) (f : Feature) (no66 : Bool) :
    s.enterDirect p f no66 = .error s.ud :=
  stopIf_bind_error (Pfx.has_iff.mpr h)

theorem State.enterPconfig_lock (s : State) (h : .lock ∈ p.bytes) : s.enterPconfig p = .error s.ud :=
  stopIf_bind_error (by simp [Pfx.has_iff.mpr h])

theorem State.enterWait_lock (s : State) (h : .lock ∈ p.bytes) (rm : Rm) :
    s.enterWait p rm = .error s.ud :=
  stopIf_bind_error (Pfx.has_iff.mpr h)

end

theorem State.enterVex_lock (s : State) {o : VexOps} (h : .lock ∈ o.pfx.bytes) (r : VexRow) (vl : VL) :
    s.enterVex r vl o = .error s.ud :=
  stopIf_bind_error (badBeforeVector_of_lock h)

theorem State.enterEvex_lock (s : State) {o : EvexOps Rm} (h : .lock ∈ o.pfx.bytes) (r : EvexRow)
    (vl : VL) : s.enterEvex r vl o = .error s.ud :=
  stopIf_bind_error (badBeforeVector_of_lock h)

/-! ### Every instruction -/

/-- Settles O15, by the shape of the instruction: each shared operation begins with a check that
LOCK fails with #UD. -/
theorem lockIsUndefined : Obligations.LockIsUndefined := by
  intro i s h
  cases shape i with
  | sse form run =>
    rw [form] at h
    exact (run s).trans (finish_bind_ud (s.enterSse_lock h _))
  | vex form run =>
    rw [form] at h
    exact (run s).trans (finish_bind_ud (s.enterVex_lock h _ _))
  | evex form run | shufbit form run | compressStore _ form run | compressReg form run
  | expandLoad form run | expandReg form run =>
    rw [form] at h
    exact (run s).trans (finish_bind_ud (s.enterEvex_lock h _ _))
  | movdiri name run =>
    rcases name with ⟨-, rfl⟩ | ⟨-, rfl⟩ <;>
      exact (run s).trans (finish_bind_ud (s.enterDirect_lock h _ _))
  | movdir64b name => subst name; exact finish_bind_ud (s.enterDirect_lock h _ _)
  | cldemote name | wbnoinvd name | umonitor name => subst name; exact finish_bind_ud (stopIf_lock s h)
  | pconfig name => subst name; exact finish_bind_ud (s.enterPconfig_lock h)
  | tpause name | umwait name => subst name; exact finish_bind_ud (s.enterWait_lock h _)

end Sys2Proof.Machine
end

section
/-! PROOFS. GFNI (41_gfni.md): `affine_byte` (R151) bit by bit, as a sum over GF(2). -/

namespace Sys2Proof.Machine

/-! ### A byte from its bits, a byte of a quadword, and parity -/

theorem byteOfBits_eq_concat (f : Nat → Bool) :
    byteOfBits f = (BitVec.ofBool (f 7) |>.concat (f 6) |>.concat (f 5) |>.concat (f 4)
      |>.concat (f 3) |>.concat (f 2) |>.concat (f 1) |>.concat (f 0)) := rfl

theorem getLsbD_byteOfBits (f : Nat → Bool) {i : Nat} (h : i < 8) : (byteOfBits f).getLsbD i = f i := by
  rw [byteOfBits_eq_concat]
  interval_cases i <;> simp [BitVec.getElem_concat]

theorem getLsbD_qbyte (q : Word) (i : Nat) {k : Nat} (h : k < 8) :
    (qbyte q i).getLsbD k = q.getLsbD (8 * i + k) := by
  simp [qbyte, h]

theorem parity_eq_foldl (x : Byte) :
    parity x = (List.range 8).foldl (fun acc k => acc ^^ x.getLsbD k) false := by
  simp [parity, List.range_succ]

/-- The parity of a row of the matrix ANDed with `x` is their inner product over GF(2). -/
theorem parity_qbyte_and (a : Word) (r : Nat) (x : Byte) :
    parity (qbyte a r &&& x) =
      (List.range 8).foldl (fun acc k => acc ^^ (a.getLsbD (8 * r + k) && x.getLsbD k)) false := by
  rw [parity_eq_foldl]
  refine List.foldl_ext _ _ _ fun acc k hk => ?_
  rw [BitVec.getLsbD_and, getLsbD_qbyte a r (List.mem_range.mp hk)]

/-! ### The affine map -/

theorem getLsbD_affineByte (a : Word) (x imm : Byte) {i : Nat} (h : i < 8) :
    (affineByte a x imm).getLsbD i =
      ((List.range 8).foldl (fun acc k => acc ^^ (a.getLsbD (8 * (7 - i) + k) && x.getLsbD k)) false ^^
        imm.getLsbD i) := by
  rw [affineByte, getLsbD_byteOfBits _ h, parity_qbyte_and]

/-- Over GF(2), the inner product with a unit vector selects one coordinate. -/
theorem foldl_xor_unit (f : Nat → Bool) (i n : Nat) :
    (List.range n).foldl (fun acc k => acc ^^ (decide (k = i) && f k)) false =
      (decide (i < n) && f i) := by
  induction n with
  | zero => rfl
  | succ n ih =>
    rw [List.range_succ, List.foldl_append, ih]
    rcases Nat.lt_trichotomy i n with h | rfl | h
    · simp [h, h.ne', h.trans n.lt_succ_self]
    · simp
    · simp [h.ne, h.not_gt, Nat.not_lt.mpr h]

theorem getLsbD_identityMatrix :
    ∀ i < 8, ∀ k < 8, (0x0102040810204080 : Word).getLsbD (8 * (7 - i) + k) = decide (k = i) := by
  decide

/-- Row `i` of the identity matrix is the unit vector `i`. -/
theorem affineByte_identity (x : Byte) : affineByte 0x0102040810204080 x 0 = x := by
  refine BitVec.eq_of_getLsbD_eq fun i hi => ?_
  calc (affineByte 0x0102040810204080 x 0).getLsbD i
      = (List.range 8).foldl (fun acc k => acc ^^
          ((0x0102040810204080 : Word).getLsbD (8 * (7 - i) + k) && x.getLsbD k)) false := by
        rw [getLsbD_affineByte _ _ _ hi, show (0 : Byte).getLsbD i = false from BitVec.getLsbD_zero,
          Bool.xor_false]
    _ = (List.range 8).foldl (fun acc k => acc ^^ (decide (k = i) && x.getLsbD k)) false :=
        List.foldl_ext _ _ _ fun acc k hk => by
          rw [getLsbD_identityMatrix i hi k (List.mem_range.mp hk)]
    _ = x.getLsbD i := by rw [foldl_xor_unit, decide_eq_true hi, Bool.true_and]

end Sys2Proof.Machine

namespace Sys2Proof

/-- Settles O26: the closed form of a result bit, and the map of the identity matrix. -/
theorem affineByte : Obligations.AffineByte :=
  ⟨fun a x imm _ h => Machine.getLsbD_affineByte a x imm h, Machine.affineByte_identity⟩

end Sys2Proof
end

section
/-! PROOFS. PCONFIG (43_pconfig.md): what MKTME_KEY_PROGRAM writes to the key table, command by command
(R191), and what it leaves in registers and flags (R182, R186). -/

namespace Sys2Proof.Machine

/-! ### The key table after a write -/

theorem State.keyAt_setKey_self {s : State} (wf : KeyTable.wf s.keyTable) (id : Nat) (e : KeyEntry) :
    (s.setKey id e).keyAt id = e := by
  rw [State.keyAt, State.setKey, sparseGet_sparseSet _ wf.1, if_pos rfl]

theorem State.keyAt_setKey_ne {s : State} (wf : KeyTable.wf s.keyTable) {id k : Nat} (e : KeyEntry)
    (h : k ≠ id) : (s.setKey id e).keyAt k = s.keyAt k := by
  rw [State.keyAt, State.setKey, sparseGet_sparseSet _ wf.1, if_neg h, State.keyAt]

/-! ### The fields of the structure as loads -/

section
variable (s : State) (la : Word)

theorem State.load_keyid : s.load la 2 16 = field (s.keyStruct la) 0 2 16 := by
  rw [s.field_keyStruct la (by decide), BitVec.add_zero]

theorem State.load_command : s.load (la + 2) 1 8 = field (s.keyStruct la) 2 1 8 :=
  (s.field_keyStruct la (by decide)).symm

theorem State.load_algorithm : s.load (la + 3) 2 16 = field (s.keyStruct la) 3 2 16 :=
  (s.field_keyStruct la (by decide)).symm

theorem State.load_dataKey : s.load (la + 64) 16 128 = field (s.keyStruct la) 64 16 128 :=
  (s.field_keyStruct la (by decide)).symm

theorem State.load_tweakKey : s.load (la + 128) 16 128 = field (s.keyStruct la) 128 16 128 :=
  (s.field_keyStruct la (by decide)).symm

end

/-! ### The status checks -/

/-- An algorithm field passes its two checks exactly when it names one supported algorithm (R187). -/
theorem algorithm_supported (alg algs : BitVec 16) :
    ¬ (numBits alg ≠ 1 ∨ alg &&& algs = 0) ↔
      ∃ b, b < 16 ∧ alg = BitVec.twoPow 16 b ∧ algs.getLsbD b = true := by
  have supported : ∀ b, b < 16 → (BitVec.twoPow 16 b &&& algs ≠ 0 ↔ algs.getLsbD b = true) := by
    intro b hb
    rw [BitVec.twoPow_and]
    cases h : algs.getLsbD b
    · simp
    · have : BitVec.twoPow 16 b ≠ 0#16 := fun e => by
        simpa [hb] using congrArg (BitVec.getLsbD · b) e
      simpa using this
  rw [not_or, not_not, numBits_eq_one]
  constructor
  · rintro ⟨⟨b, hb, rfl⟩, h⟩
    exact ⟨b, hb, rfl, (supported b hb).mp h⟩
  · rintro ⟨b, hb, rfl, h⟩
    exact ⟨⟨b, hb, rfl⟩, (supported b hb).mpr h⟩

/-- The leaf acquires the lock exactly when the command, the KeyID and the algorithm are valid and the lock
is free (R187, R189). -/
theorem State.keyError_none {s : State} {t : List Byte} :
    s.keyError t = none ↔
      (field t 2 1 8).toNat ≤ 3 ∧
      (0 < (field t 0 2 16).toNat ∧ (field t 0 2 16).toNat < 2 ^ s.msr.tmeKeyidBits.toNat ∧
        (field t 0 2 16).toNat ≤ s.msr.tmeMaxKeys.toNat) ∧
      (∃ b, b < 16 ∧ field t 3 2 16 = BitVec.twoPow 16 b ∧ s.msr.tmeCryptoAlgs.getLsbD b = true) ∧
      s.keyLock = .unlocked := by
  have pos : 0 < 2 ^ s.msr.tmeKeyidBits.toNat := Nat.two_pow_pos _
  have valid : ∀ id m n : Nat, 0 < n →
      (¬ (n - 1 < id ∨ m < id ∨ id = 0) ↔ 0 < id ∧ id < n ∧ id ≤ m) := by omega
  simp only [State.keyError, ite_eq_iff, reduceCtorEq, and_false, false_or, and_true, not_lt, not_not,
    valid _ _ _ pos, algorithm_supported]

/-! ### The four commands -/

/-- Command 0 writes the two keys of the structure (R191). -/
theorem State.program_setKeyDirect (s : State) {t : List Byte} (h : field t 2 1 8 = (0 : Byte)) :
    s.program t = (progSuccess, s.setKey (field t 0 2 16).toNat
      { dataKey := field t 64 16 128, tweakKey := field t 128 16 128, mode := .keyidKey }) := by
  simp [State.program, h]

/-- Command 1, both draws successful, writes them XOR the keys of the structure (R191). -/
theorem State.program_setKeyRandom (s : State) {t : List Byte} (h : field t 2 1 8 = (1 : Byte))
    {d1 d2 : BitVec 128} (h1 : Config.entropy s.draws = some d1)
    (h2 : Config.entropy (s.draws + 1) = some d2) :
    s.program t = (progSuccess,
      { s.setKey (field t 0 2 16).toNat
          { dataKey := d1 ^^^ field t 64 16 128, tweakKey := d2 ^^^ field t 128 16 128,
            mode := .keyidKey } with
        draws := s.draws + 2 }) := by
  simp [State.program, h, h1, h2]

/-- Command 2 clears the keys and selects the TME key (R191). -/
theorem State.program_clearKey (s : State) {t : List Byte} (h : field t 2 1 8 = (2 : Byte)) :
    s.program t = (progSuccess, s.setKey (field t 0 2 16).toNat
      { dataKey := 0, tweakKey := 0, mode := .tmeKey }) := by
  simp [State.program, h]

/-- Command 3 keeps the keys and turns encryption off (R191). -/
theorem State.program_noEncrypt (s : State) {t : List Byte} (h : field t 2 1 8 = (3 : Byte)) :
    s.program t = (progSuccess, s.setKey (field t 0 2 16).toNat
      { s.keyAt (field t 0 2 16).toNat with mode := .noEncryption }) := by
  simp [State.program, h]

/-- A successful command writes the one entry that R191's table says. -/
theorem State.program_success (s : State) (t : List Byte) {id cmd : Nat} {key1 key2 : BitVec 128}
    (hid : (field t 0 2 16).toNat = id) (hcmd : (field t 2 1 8).toNat = cmd)
    (hkey1 : field t 64 16 128 = key1) (hkey2 : field t 128 16 128 = key2) (valid : cmd ≤ 3)
    (drawn : cmd = 1 → (Config.entropy s.draws).isSome ∧ (Config.entropy (s.draws + 1)).isSome) :
    ∃ e d, s.program t = (progSuccess, { s.setKey id e with draws := d }) ∧
      (cmd = 0 → e = { dataKey := key1, tweakKey := key2, mode := .keyidKey }) ∧
      (cmd = 1 → ∀ d1 d2, Config.entropy s.draws = some d1 → Config.entropy (s.draws + 1) = some d2 →
        e = { dataKey := d1 ^^^ key1, tweakKey := d2 ^^^ key2, mode := .keyidKey }) ∧
      (cmd = 2 → e = { dataKey := 0, tweakKey := 0, mode := .tmeKey }) ∧
      (cmd = 3 → e = { s.keyAt id with mode := .noEncryption }) := by
  subst hid hkey1 hkey2
  have command : ∀ n : Byte, cmd = n.toNat → field t 2 1 8 = n :=
    fun n h => BitVec.eq_of_toNat_eq (hcmd.trans h)
  interval_cases cmd
  · exact ⟨_, _, s.program_setKeyDirect (command 0 rfl), fun _ => rfl, nofun, nofun, nofun⟩
  · obtain ⟨some1, some2⟩ := drawn rfl
    obtain ⟨d1, h1⟩ := Option.isSome_iff_exists.mp some1
    obtain ⟨d2, h2⟩ := Option.isSome_iff_exists.mp some2
    refine ⟨_, _, s.program_setKeyRandom (command 1 rfl) h1 h2, nofun, fun _ a b ha hb => ?_,
      nofun, nofun⟩
    obtain rfl : d1 = a := Option.some.inj (h1.symm.trans ha)
    obtain rfl : d2 = b := Option.some.inj (h2.symm.trans hb)
    rfl
  · exact ⟨_, _, s.program_clearKey (command 2 rfl), nofun, nofun, fun _ => rfl, nofun⟩
  · exact ⟨_, _, s.program_noEncrypt (command 3 rfl), nofun, nofun, nofun, fun _ => rfl⟩

/-! ### What PCONFIG returns -/

theorem State.setWidth_pconfigRax (s : State) (code : Nat) :
    (s.pconfigRax code).setWidth 32 = BitVec.ofNat 32 code := by
  rw [State.pconfigRax]
  split
  · exact BitVec.setWidth_ofNat_of_le (by omega) code
  · exact BitVec.setWidth_append_eq_right

/-- PCONFIG that has changed nothing but the key table, its lock and the draws returns its code. -/
theorem State.pconfigReturns_result (s : State) (table : List (Nat × KeyEntry)) (lock : KeyLock)
    (d code len : Nat) :
    PconfigReturns code len s ((State.pconfigResult
      { s with keyTable := table, keyLock := lock, draws := d } code).advance len) where
  eax := (congrArg (BitVec.setWidth 32) (State.gprAt_setGpr_self _ _ _)).trans
    (State.setWidth_pconfigRax _ code)
  rax h := (State.gprAt_setGpr_self _ _ _).trans (if_pos h)
  flags := statusOf_writeStatus _ _
  other _ h := getLsbD_writeStatus _ _ h
  frame :=
    { gpr := fun _ h => State.gprAt_setGpr_ne _ _ (by simpa using h)
      zmm := fun _ _ => rfl
      k := fun _ _ => rfl
      byte := fun _ _ => rfl
      fixed := ⟨rfl, rfl, rfl, rfl, rfl, rfl, rfl, rfl, rfl, rfl⟩ }
  time := ⟨rfl, rfl⟩
  monitor := ⟨rfl, rfl⟩
  rip := rfl

/-- PCONFIG that gets to its structure completes with what the leaf answers (R187). -/
theorem exec_pconfig {p : Pfx} {s : State} {la : Word} (ready : s.PconfigReady p)
    (place : s.KeyStructAt la) :
    exec (.pconfig p) s = .next (((s.keyProgram (s.keyStruct la)).2.pconfigResult
      (s.keyProgram (s.keyStruct la)).1).advance (Instr.pconfig p).len) :=
  execPconfig_next.mpr ⟨ready, la,
    State.checkKeyStruct_ok.mpr ⟨place.seg, place.addr, place.aligned, place.pages⟩,
    (s.reservedBytes_zero la).mpr place.reserved, rfl⟩

/-- PCONFIG whose command writes one entry leaves that entry, every other one, and the lock free. -/
theorem exec_pconfig_setKey {p : Pfx} {s : State} {la : Word} {id d : Nat} {e : KeyEntry}
    (ready : s.PconfigReady p) (place : s.KeyStructAt la) (wf : KeyTable.wf s.keyTable)
    (checks : s.keyError (s.keyStruct la) = none)
    (writes : s.program (s.keyStruct la) = (progSuccess, { s.setKey id e with draws := d })) :
    ∃ t, exec (.pconfig p) s = .next t ∧ t.keyAt id = e ∧ (∀ k, k ≠ id → t.keyAt k = s.keyAt k) ∧
      t.keyLock = .unlocked ∧ PconfigReturns 0 (Instr.pconfig p).len s t := by
  have answer : s.keyProgram (s.keyStruct la) = (progSuccess, { s.setKey id e with draws := d }) := by
    rw [State.keyProgram, checks, ← writes]
  have run := exec_pconfig ready place
  rw [answer] at run
  obtain ⟨-, -, -, free⟩ := State.keyError_none.mp checks
  exact ⟨_, run, State.keyAt_setKey_self wf id e, fun k hk => State.keyAt_setKey_ne wf e hk, free,
    s.pconfigReturns_result _ _ _ _ _⟩

/-- Settles O51: the checks pass (`keyError_none`), the command writes its entry (`program_success`),
and the rest is as PCONFIG leaves it (`exec_pconfig_setKey`). -/
theorem pconfigProgramsKey : Obligations.PconfigProgramsKey := by
  intro p s la b id cmd key1 key2 ready place wf valid pos bits keys hb alg algs free drawn
  have hid : (field (s.keyStruct la) 0 2 16).toNat = id := by rw [← s.load_keyid]
  have hcmd : (field (s.keyStruct la) 2 1 8).toNat = cmd := by rw [← s.load_command]
  have checks : s.keyError (s.keyStruct la) = none :=
    State.keyError_none.mpr ⟨hcmd ▸ valid, hid ▸ ⟨pos, bits, keys⟩,
      ⟨b, hb, s.load_algorithm la ▸ alg, algs⟩, free⟩
  obtain ⟨e, d, writes, entry0, entry1, entry2, entry3⟩ := s.program_success (s.keyStruct la) hid hcmd
    (s.load_dataKey la).symm (s.load_tweakKey la).symm valid drawn
  obtain ⟨t, run, rfl, rest⟩ := exec_pconfig_setKey ready place wf checks writes
  exact ⟨t, run, entry0, entry1, entry2, entry3, rest⟩

end Sys2Proof.Machine
end

section
/-! PROOFS. TPAUSE and UMWAIT (44_waitpkg.md): the power state that a control word asks for, and
the control words that are #GP (R203, R204, R207). -/

namespace Sys2Proof.Machine

/-! ### The requested state -/

theorem State.requestedState_eq (s : State) (ctl : BitVec 32) :
    s.requestedState ctl =
      if ctl.getLsbD 0 = true ∨ s.msr.umwaitControl.getLsbD 0 = true then .c01 else .c02 := by
  simp only [State.requestedState, Bool.or_eq_true]

/-! ### The reserved bits of the control word -/

/-- A word with a bit above bit 0 does not shift out to zero. -/
theorem ushiftRight_one_ne_zero {w : Nat} {v : BitVec w} {n : Nat} (pos : 0 < n)
    (set : v.getLsbD n = true) : v >>> 1 ≠ 0 := by
  intro zero
  have bit : (v >>> 1).getLsbD (n - 1) = true := by
    rw [BitVec.getLsbD_ushiftRight, Nat.add_sub_cancel' pos, set]
  rw [zero] at bit
  exact absurd bit (by simp)

/-- Past their #UD checks, TPAUSE and UMWAIT stop with #GP at a control word with a reserved bit set. -/
theorem State.enterWait_gp {s : State} {p : Pfx} {r : BitVec 5} (lock : p.has .lock = false)
    (feature : s.hasAll [.waitpkg] = true)
    (reserved : ((s.gprAt (r.setWidth 4)).setWidth 32 : BitVec 32) >>> 1 ≠ 0) :
    s.enterWait p (.reg r) = .error s.gp := by
  simp only [State.enterWait, lock, feature, Bool.not_true, stopIf_false, ok_bind]
  exact stopIf_bind_error (decide_eq_true reserved)

/-- A meaning whose first part stops with #GP is #GP, whatever comes after it. -/
theorem finish_bind_gp {α : Type} {s : State} {x : Except Stop α} {f : α → Except Stop State}
    (h : x = .error s.gp) : finish (x >>= f) = .fault (.exception .gp s.code0 none) := by
  rw [h, error_bind, finish_fault, s.gp_eq]

/-- Settles O57: the level of a new wait is its requested state, and both instructions begin with
`enterWait`, which a reserved bit stops. -/
theorem requestedState : Obligations.RequestedState := by
  intro s ctl op len
  refine ⟨s.requestedState_eq ctl, ?_⟩
  rintro p r lock feature rfl ⟨n, pos, set⟩
  have stops : s.enterWait p (.reg r) = .error s.gp :=
    State.enterWait_gp lock feature (ushiftRight_one_ne_zero pos set)
  exact ⟨s.code0, finish_bind_gp stops, finish_bind_gp stops⟩

end Sys2Proof.Machine
end

section
/-! PROOFS. VPCLMULQDQ (45_vaes_vpclmulqdq.md): `PCLMUL128` (R236) bit by bit, as the coefficients of a
product of polynomials over GF(2). -/

namespace Sys2Proof.Machine

/-! ### Sums over GF(2) -/

/-- The sum over GF(2) of `f 0` to `f (n - 1)`, with which R236 gives a bit of the product. -/
def xorBelow (n : Nat) (f : Nat → Bool) : Bool :=
  (List.range n).foldl (fun acc k => acc ^^ f k) false

theorem xorBelow_zero (f : Nat → Bool) : xorBelow 0 f = false := rfl

theorem xorBelow_succ (n : Nat) (f : Nat → Bool) : xorBelow (n + 1) f = (xorBelow n f ^^ f n) := by
  simp [xorBelow, List.range_succ]

theorem xorBelow_succ_left (n : Nat) (f : Nat → Bool) :
    xorBelow (n + 1) f = (f 0 ^^ xorBelow n fun k => f (k + 1)) := by
  induction n with
  | zero => simp [xorBelow_succ, xorBelow_zero]
  | succ n ih => rw [xorBelow_succ, ih, xorBelow_succ n, Bool.xor_assoc]

theorem xorBelow_congr {n : Nat} {f g : Nat → Bool} (h : ∀ k < n, f k = g k) :
    xorBelow n f = xorBelow n g :=
  List.foldl_ext _ _ _ fun _ k hk => by rw [h k (List.mem_range.mp hk)]

theorem xorBelow_reflect (n : Nat) (f : Nat → Bool) :
    xorBelow n (fun k => f (n - 1 - k)) = xorBelow n f := by
  induction n with
  | zero => rfl
  | succ n ih =>
    rw [xorBelow_succ_left, xorBelow_succ, ← ih, Bool.xor_comm]
    simp only [Nat.add_sub_cancel, Nat.sub_zero, Nat.sub_sub, Nat.add_comm 1]

theorem xorBelow_of_le {m n : Nat} {f : Nat → Bool} (le : m ≤ n) (zero : ∀ k, m ≤ k → f k = false) :
    xorBelow n f = xorBelow m f := by
  induction n, le using Nat.le_induction with
  | base => rfl
  | succ n le ih => rw [xorBelow_succ, ih, zero n le, Bool.xor_false]

/-- Two bounds give the same sum where nothing is left at or above either. -/
theorem xorBelow_eq_of_zero_above {m n : Nat} {f : Nat → Bool} (hm : ∀ k, m ≤ k → f k = false)
    (hn : ∀ k, n ≤ k → f k = false) : xorBelow m f = xorBelow n f := by
  rcases Nat.le_total m n with le | le
  · exact (xorBelow_of_le le hm).symm
  · exact xorBelow_of_le le hn

/-! ### The bits of the product -/

/-- What bit `k` of `y` adds to bit `i` of the product: it shifts `x` left by `k`. -/
def clmulTerm (x y : Word) (i k : Nat) : Bool :=
  y.getLsbD k && (decide (k ≤ i) && x.getLsbD (i - k))

theorem clmulTerm_of_le (x y : Word) {i k : Nat} (h : k ≤ i) :
    clmulTerm x y i k = (x.getLsbD (i - k) && y.getLsbD k) := by
  rw [clmulTerm, decide_eq_true h, Bool.true_and, Bool.and_comm]

theorem clmulTerm_of_lt (x y : Word) {i k : Nat} (h : i < k) : clmulTerm x y i k = false := by
  simp [clmulTerm, h]

theorem clmulTerm_of_ge_64 (x y : Word) (i : Nat) {k : Nat} (h : 64 ≤ k) :
    clmulTerm x y i k = false := by
  rw [clmulTerm, y.getLsbD_of_ge k h, Bool.false_and]

theorem getLsbD_setWidth_shiftLeft (x : Word) {i : Nat} (h : i < 128) (k : Nat) :
    (x.setWidth 128 <<< k).getLsbD i = (decide (k ≤ i) && x.getLsbD (i - k)) := by
  simp [h, ← Nat.not_lt, -not_lt]

theorem getLsbD_clmulUpTo (x y : Word) {i : Nat} (h : i < 128) (n : Nat) :
    (clmulUpTo x y n).getLsbD i = xorBelow n (clmulTerm x y i) := by
  induction n with
  | zero => exact BitVec.getLsbD_zero
  | succ n ih =>
    rw [clmulUpTo, BitVec.getLsbD_xor, ih, xorBelow_succ, clmulTerm]
    cases y.getLsbD n
    · simp
    · simp [-BitVec.getLsbD_shiftLeft, getLsbD_setWidth_shiftLeft x h]

theorem getLsbD_clmul (x y : Word) {i : Nat} (h : i < 128) :
    (clmul x y).getLsbD i = xorBelow 64 (clmulTerm x y i) :=
  getLsbD_clmulUpTo x y h 64

/-- The closed form of R236: a coefficient of the product of two polynomials over GF(2). -/
theorem getLsbD_clmul_eq_convolution (x y : Word) {i : Nat} (h : i < 128) :
    (clmul x y).getLsbD i = xorBelow (i + 1) fun j => x.getLsbD j && y.getLsbD (i - j) :=
  calc (clmul x y).getLsbD i
      = xorBelow 64 (clmulTerm x y i) := getLsbD_clmul x y h
    _ = xorBelow (i + 1) (clmulTerm x y i) :=
        xorBelow_eq_of_zero_above (fun _ => clmulTerm_of_ge_64 x y i) fun _ => clmulTerm_of_lt x y
    _ = xorBelow (i + 1) (fun j => clmulTerm x y i (i - j)) := (xorBelow_reflect _ _).symm
    _ = xorBelow (i + 1) (fun j => x.getLsbD j && y.getLsbD (i - j)) :=
        xorBelow_congr fun j hj => by
          rw [clmulTerm_of_le x y (Nat.sub_le i j), Nat.sub_sub_self (Nat.le_of_lt_succ hj)]

/-- Each of the two operands has degree at most 63, so no two of their bits meet at bit 127. -/
theorem getLsbD_clmul_127 (x y : Word) : (clmul x y).getLsbD 127 = false := by
  rw [getLsbD_clmul x y (by decide)]
  refine xorBelow_of_le (Nat.zero_le 64) fun k _ => ?_
  by_cases high : 64 ≤ k
  · exact clmulTerm_of_ge_64 x y 127 high
  · rw [clmulTerm_of_le x y (by omega), x.getLsbD_of_ge (127 - k) (by omega), Bool.false_and]

/-! ### Products with a power of two -/

/-- The product with the monomial of degree `k` is the shift left by `k`. -/
theorem clmul_twoPow (x : Word) {k : Nat} (h : k < 64) :
    clmul x (BitVec.twoPow 64 k) = x.setWidth 128 <<< k := by
  refine BitVec.eq_of_getLsbD_eq fun i hi => ?_
  calc (clmul x (BitVec.twoPow 64 k)).getLsbD i
      = xorBelow 64 (clmulTerm x (BitVec.twoPow 64 k) i) := getLsbD_clmul _ _ hi
    _ = xorBelow 64 (fun j => decide (j = k) && (decide (j ≤ i) && x.getLsbD (i - j))) :=
        xorBelow_congr fun j _ => by
          simp only [clmulTerm, BitVec.getLsbD_twoPow, h, decide_true, Bool.true_and, eq_comm]
    _ = (decide (k ≤ i) && x.getLsbD (i - k)) := by
        rw [xorBelow, foldl_xor_unit, decide_eq_true h, Bool.true_and]
    _ = (x.setWidth 128 <<< k).getLsbD i := (getLsbD_setWidth_shiftLeft x hi k).symm

theorem clmul_one (x : Word) : clmul x 1 = x.setWidth 128 :=
  (clmul_twoPow x (k := 0) (by decide)).trans (BitVec.shiftLeft_zero _)

theorem clmul_two (x : Word) : clmul x 2 = x.setWidth 128 <<< 1 := clmul_twoPow x (k := 1) (by decide)

/-! ### The two named squares -/

theorem clmul_allOnes_self :
    clmul 0xFFFFFFFFFFFFFFFF 0xFFFFFFFFFFFFFFFF = 0x55555555555555555555555555555555 := by decide

theorem clmul_top_self : clmul 0x8000000000000000 0x8000000000000000 = 1 <<< 126 :=
  (clmul_twoPow 0x8000000000000000 (k := 63) (by decide)).trans (by decide)

/-- Settles O33: a bit of the product is a sum over GF(2) of what the bits of `y` add to it, which
gives the closed form, bit 127 and the products with powers of two. -/
theorem carrylessProduct : Obligations.CarrylessProduct :=
  ⟨fun x y _ h => getLsbD_clmul_eq_convolution x y h, getLsbD_clmul_127,
    fun x => ⟨clmul_one x, clmul_two x⟩, clmul_allOnes_self, clmul_top_self⟩

end Sys2Proof.Machine
end

section
/-! PROOFS. Each instruction and the row that lists it: the operands from which the row makes it, and what it
is made of (R124 to R126). -/

namespace Sys2Proof

/-- The row of an instruction and the operands from which the row makes it. -/
inductive Instr.Listed (i : Instr) : Prop
  | legacy (l : LOp) (p : Pfx) (reg : BitVec 4) (rm : Rm) (imm : Byte)
      (make : l.make p reg rm imm = some i)
      (form : i.form = .legacy l.row p reg (l.row.rm.map fun _ => rm) imm)
  | vex (v : VOp) (l : Bool) (o : VexOps) (imm : Byte) (make : v.make l o imm = some i)
      (form : i.form = .vex v.row l o imm)
  | evex (e : EvexSel) (vl : VL) (o : EvexOps Rm) (imm : Byte) (make : e.make vl o imm = some i)
      (form : i.form = .evex e.row vl o imm)

/-- Every instruction is one that its row makes. -/
theorem Instr.listed : (i : Instr) → i.Listed
  | .cldemote p m => .legacy .cldemote p 0 (.mem m) 0 rfl rfl
  | .gf2p8affineinvqb p g rm i => .legacy .gf2p8affineinvqb p g rm i rfl rfl
  | .gf2p8affineqb p g rm i => .legacy .gf2p8affineqb p g rm i rfl rfl
  | .gf2p8mulb p g rm => .legacy .gf2p8mulb p g rm 0 rfl rfl
  | .movdiri32 p m g => .legacy .movdiri32 p g (.mem m) 0 rfl rfl
  | .movdiri64 p m g => .legacy .movdiri64 p g (.mem m) 0 rfl rfl
  | .movdir64b p g m => .legacy .movdir64b p g (.mem m) 0 rfl rfl
  | .pconfig p => .legacy .pconfig p 0 (.reg 0) 0 rfl rfl
  | .tpause p rm => .legacy .tpause p 0 rm 0 rfl rfl
  | .umonitor p rm => .legacy .umonitor p 0 rm 0 rfl rfl
  | .umwait p rm => .legacy .umwait p 0 rm 0 rfl rfl
  | .wbnoinvd p => .legacy .wbnoinvd p 0 (.reg 0) 0 rfl rfl
  | .vgf2p8affineinvqbVex128 o i => .vex .vgf2p8affineinvqb false o i rfl rfl
  | .vgf2p8affineinvqbVex256 o i => .vex .vgf2p8affineinvqb true o i rfl rfl
  | .vgf2p8affineqbVex128 o i => .vex .vgf2p8affineqb false o i rfl rfl
  | .vgf2p8affineqbVex256 o i => .vex .vgf2p8affineqb true o i rfl rfl
  | .vgf2p8mulbVex128 o => .vex .vgf2p8mulb false o 0 rfl rfl
  | .vgf2p8mulbVex256 o => .vex .vgf2p8mulb true o 0 rfl rfl
  | .vaesdecVex256 o => .vex .vaesdec true o 0 rfl rfl
  | .vaesdeclastVex256 o => .vex .vaesdeclast true o 0 rfl rfl
  | .vaesencVex256 o => .vex .vaesenc true o 0 rfl rfl
  | .vaesenclastVex256 o => .vex .vaesenclast true o 0 rfl rfl
  | .vpclmulqdqVex256 o i => .vex .vpclmulqdq true o i rfl rfl
  | .vgf2p8affineinvqbEvex128 o i => .evex (.gen .vgf2p8affineinvqb) .v128 o i rfl rfl
  | .vgf2p8affineinvqbEvex256 o i => .evex (.gen .vgf2p8affineinvqb) .v256 o i rfl rfl
  | .vgf2p8affineinvqbEvex512 o i => .evex (.gen .vgf2p8affineinvqb) .v512 o i rfl rfl
  | .vgf2p8affineqbEvex128 o i => .evex (.gen .vgf2p8affineqb) .v128 o i rfl rfl
  | .vgf2p8affineqbEvex256 o i => .evex (.gen .vgf2p8affineqb) .v256 o i rfl rfl
  | .vgf2p8affineqbEvex512 o i => .evex (.gen .vgf2p8affineqb) .v512 o i rfl rfl
  | .vgf2p8mulbEvex128 o => .evex (.gen .vgf2p8mulb) .v128 o 0 rfl rfl
  | .vgf2p8mulbEvex256 o => .evex (.gen .vgf2p8mulb) .v256 o 0 rfl rfl
  | .vgf2p8mulbEvex512 o => .evex (.gen .vgf2p8mulb) .v512 o 0 rfl rfl
  | .vaesdecEvex128 o => .evex (.gen .vaesdec) .v128 o 0 rfl rfl
  | .vaesdecEvex256 o => .evex (.gen .vaesdec) .v256 o 0 rfl rfl
  | .vaesdecEvex512 o => .evex (.gen .vaesdec) .v512 o 0 rfl rfl
  | .vaesdeclastEvex128 o => .evex (.gen .vaesdeclast) .v128 o 0 rfl rfl
  | .vaesdeclastEvex256 o => .evex (.gen .vaesdeclast) .v256 o 0 rfl rfl
  | .vaesdeclastEvex512 o => .evex (.gen .vaesdeclast) .v512 o 0 rfl rfl
  | .vaesencEvex128 o => .evex (.gen .vaesenc) .v128 o 0 rfl rfl
  | .vaesencEvex256 o => .evex (.gen .vaesenc) .v256 o 0 rfl rfl
  | .vaesencEvex512 o => .evex (.gen .vaesenc) .v512 o 0 rfl rfl
  | .vaesenclastEvex128 o => .evex (.gen .vaesenclast) .v128 o 0 rfl rfl
  | .vaesenclastEvex256 o => .evex (.gen .vaesenclast) .v256 o 0 rfl rfl
  | .vaesenclastEvex512 o => .evex (.gen .vaesenclast) .v512 o 0 rfl rfl
  | .vpclmulqdqEvex128 o i => .evex (.gen .vpclmulqdq) .v128 o i rfl rfl
  | .vpclmulqdqEvex256 o i => .evex (.gen .vpclmulqdq) .v256 o i rfl rfl
  | .vpclmulqdqEvex512 o i => .evex (.gen .vpclmulqdq) .v512 o i rfl rfl
  | .vpdpbusd128 o => .evex (.gen .vpdpbusd) .v128 o 0 rfl rfl
  | .vpdpbusd256 o => .evex (.gen .vpdpbusd) .v256 o 0 rfl rfl
  | .vpdpbusd512 o => .evex (.gen .vpdpbusd) .v512 o 0 rfl rfl
  | .vpdpbusds128 o => .evex (.gen .vpdpbusds) .v128 o 0 rfl rfl
  | .vpdpbusds256 o => .evex (.gen .vpdpbusds) .v256 o 0 rfl rfl
  | .vpdpbusds512 o => .evex (.gen .vpdpbusds) .v512 o 0 rfl rfl
  | .vpdpwssd128 o => .evex (.gen .vpdpwssd) .v128 o 0 rfl rfl
  | .vpdpwssd256 o => .evex (.gen .vpdpwssd) .v256 o 0 rfl rfl
  | .vpdpwssd512 o => .evex (.gen .vpdpwssd) .v512 o 0 rfl rfl
  | .vpdpwssds128 o => .evex (.gen .vpdpwssds) .v128 o 0 rfl rfl
  | .vpdpwssds256 o => .evex (.gen .vpdpwssds) .v256 o 0 rfl rfl
  | .vpdpwssds512 o => .evex (.gen .vpdpwssds) .v512 o 0 rfl rfl
  | .vpopcntb128 o => .evex (.gen .vpopcntb) .v128 o 0 rfl rfl
  | .vpopcntb256 o => .evex (.gen .vpopcntb) .v256 o 0 rfl rfl
  | .vpopcntb512 o => .evex (.gen .vpopcntb) .v512 o 0 rfl rfl
  | .vpopcntw128 o => .evex (.gen .vpopcntw) .v128 o 0 rfl rfl
  | .vpopcntw256 o => .evex (.gen .vpopcntw) .v256 o 0 rfl rfl
  | .vpopcntw512 o => .evex (.gen .vpopcntw) .v512 o 0 rfl rfl
  | .vpopcntd128 o => .evex (.gen .vpopcntd) .v128 o 0 rfl rfl
  | .vpopcntd256 o => .evex (.gen .vpopcntd) .v256 o 0 rfl rfl
  | .vpopcntd512 o => .evex (.gen .vpopcntd) .v512 o 0 rfl rfl
  | .vpopcntq128 o => .evex (.gen .vpopcntq) .v128 o 0 rfl rfl
  | .vpopcntq256 o => .evex (.gen .vpopcntq) .v256 o 0 rfl rfl
  | .vpopcntq512 o => .evex (.gen .vpopcntq) .v512 o 0 rfl rfl
  | .vpshldw128 o i => .evex (.gen .vpshldw) .v128 o i rfl rfl
  | .vpshldw256 o i => .evex (.gen .vpshldw) .v256 o i rfl rfl
  | .vpshldw512 o i => .evex (.gen .vpshldw) .v512 o i rfl rfl
  | .vpshldd128 o i => .evex (.gen .vpshldd) .v128 o i rfl rfl
  | .vpshldd256 o i => .evex (.gen .vpshldd) .v256 o i rfl rfl
  | .vpshldd512 o i => .evex (.gen .vpshldd) .v512 o i rfl rfl
  | .vpshldq128 o i => .evex (.gen .vpshldq) .v128 o i rfl rfl
  | .vpshldq256 o i => .evex (.gen .vpshldq) .v256 o i rfl rfl
  | .vpshldq512 o i => .evex (.gen .vpshldq) .v512 o i rfl rfl
  | .vpshldvw128 o => .evex (.gen .vpshldvw) .v128 o 0 rfl rfl
  | .vpshldvw256 o => .evex (.gen .vpshldvw) .v256 o 0 rfl rfl
  | .vpshldvw512 o => .evex (.gen .vpshldvw) .v512 o 0 rfl rfl
  | .vpshldvd128 o => .evex (.gen .vpshldvd) .v128 o 0 rfl rfl
  | .vpshldvd256 o => .evex (.gen .vpshldvd) .v256 o 0 rfl rfl
  | .vpshldvd512 o => .evex (.gen .vpshldvd) .v512 o 0 rfl rfl
  | .vpshldvq128 o => .evex (.gen .vpshldvq) .v128 o 0 rfl rfl
  | .vpshldvq256 o => .evex (.gen .vpshldvq) .v256 o 0 rfl rfl
  | .vpshldvq512 o => .evex (.gen .vpshldvq) .v512 o 0 rfl rfl
  | .vpshrdw128 o i => .evex (.gen .vpshrdw) .v128 o i rfl rfl
  | .vpshrdw256 o i => .evex (.gen .vpshrdw) .v256 o i rfl rfl
  | .vpshrdw512 o i => .evex (.gen .vpshrdw) .v512 o i rfl rfl
  | .vpshrdd128 o i => .evex (.gen .vpshrdd) .v128 o i rfl rfl
  | .vpshrdd256 o i => .evex (.gen .vpshrdd) .v256 o i rfl rfl
  | .vpshrdd512 o i => .evex (.gen .vpshrdd) .v512 o i rfl rfl
  | .vpshrdq128 o i => .evex (.gen .vpshrdq) .v128 o i rfl rfl
  | .vpshrdq256 o i => .evex (.gen .vpshrdq) .v256 o i rfl rfl
  | .vpshrdq512 o i => .evex (.gen .vpshrdq) .v512 o i rfl rfl
  | .vpshrdvw128 o => .evex (.gen .vpshrdvw) .v128 o 0 rfl rfl
  | .vpshrdvw256 o => .evex (.gen .vpshrdvw) .v256 o 0 rfl rfl
  | .vpshrdvw512 o => .evex (.gen .vpshrdvw) .v512 o 0 rfl rfl
  | .vpshrdvd128 o => .evex (.gen .vpshrdvd) .v128 o 0 rfl rfl
  | .vpshrdvd256 o => .evex (.gen .vpshrdvd) .v256 o 0 rfl rfl
  | .vpshrdvd512 o => .evex (.gen .vpshrdvd) .v512 o 0 rfl rfl
  | .vpshrdvq128 o => .evex (.gen .vpshrdvq) .v128 o 0 rfl rfl
  | .vpshrdvq256 o => .evex (.gen .vpshrdvq) .v256 o 0 rfl rfl
  | .vpshrdvq512 o => .evex (.gen .vpshrdvq) .v512 o 0 rfl rfl
  | .vpshufbitqmb128 o => .evex (.gen .vpshufbitqmb) .v128 o 0 rfl rfl
  | .vpshufbitqmb256 o => .evex (.gen .vpshufbitqmb) .v256 o 0 rfl rfl
  | .vpshufbitqmb512 o => .evex (.gen .vpshufbitqmb) .v512 o 0 rfl rfl
  | .vpcompressb128m o => .evex (.mem .vpcompressb) .v128 o.anyMem 0 rfl rfl
  | .vpcompressb128r o => .evex (.reg .vpcompressb) .v128 o.anyReg 0 rfl rfl
  | .vpcompressb256m o => .evex (.mem .vpcompressb) .v256 o.anyMem 0 rfl rfl
  | .vpcompressb256r o => .evex (.reg .vpcompressb) .v256 o.anyReg 0 rfl rfl
  | .vpcompressb512m o => .evex (.mem .vpcompressb) .v512 o.anyMem 0 rfl rfl
  | .vpcompressb512r o => .evex (.reg .vpcompressb) .v512 o.anyReg 0 rfl rfl
  | .vpcompressw128m o => .evex (.mem .vpcompressw) .v128 o.anyMem 0 rfl rfl
  | .vpcompressw128r o => .evex (.reg .vpcompressw) .v128 o.anyReg 0 rfl rfl
  | .vpcompressw256m o => .evex (.mem .vpcompressw) .v256 o.anyMem 0 rfl rfl
  | .vpcompressw256r o => .evex (.reg .vpcompressw) .v256 o.anyReg 0 rfl rfl
  | .vpcompressw512m o => .evex (.mem .vpcompressw) .v512 o.anyMem 0 rfl rfl
  | .vpcompressw512r o => .evex (.reg .vpcompressw) .v512 o.anyReg 0 rfl rfl
  | .vpexpandb128m o => .evex (.mem .vpexpandb) .v128 o.anyMem 0 rfl rfl
  | .vpexpandb128r o => .evex (.reg .vpexpandb) .v128 o.anyReg 0 rfl rfl
  | .vpexpandb256m o => .evex (.mem .vpexpandb) .v256 o.anyMem 0 rfl rfl
  | .vpexpandb256r o => .evex (.reg .vpexpandb) .v256 o.anyReg 0 rfl rfl
  | .vpexpandb512m o => .evex (.mem .vpexpandb) .v512 o.anyMem 0 rfl rfl
  | .vpexpandb512r o => .evex (.reg .vpexpandb) .v512 o.anyReg 0 rfl rfl
  | .vpexpandw128m o => .evex (.mem .vpexpandw) .v128 o.anyMem 0 rfl rfl
  | .vpexpandw128r o => .evex (.reg .vpexpandw) .v128 o.anyReg 0 rfl rfl
  | .vpexpandw256m o => .evex (.mem .vpexpandw) .v256 o.anyMem 0 rfl rfl
  | .vpexpandw256r o => .evex (.reg .vpexpandw) .v256 o.anyReg 0 rfl rfl
  | .vpexpandw512m o => .evex (.mem .vpexpandw) .v512 o.anyMem 0 rfl rfl
  | .vpexpandw512r o => .evex (.reg .vpexpandw) .v512 o.anyReg 0 rfl rfl

/-- An EVEX form stands in one of the rows of R126. -/
theorem Instr.row_of_evex {i : Instr} {r : EvexRow} {vl : VL} {o : EvexOps Rm} {imm : Byte}
    (h : i.form = .evex r vl o imm) : ∃ e : EvexSel, r = e.row ∧ e.make vl o imm = some i := by
  cases i.listed with
  | legacy _ _ _ _ _ _ form | vex _ _ _ _ _ form => cases h.symm.trans form
  | evex e _ _ _ make form => cases h.symm.trans form; exact ⟨e, rfl, make⟩

/-- A VEX form stands in one of the rows of R125. -/
theorem Instr.row_of_vex {i : Instr} {r : VexRow} {l : Bool} {o : VexOps} {imm : Byte}
    (h : i.form = .vex r l o imm) : ∃ v : VOp, r = v.row ∧ v.make l o imm = some i := by
  cases i.listed with
  | legacy _ _ _ _ _ _ form | evex _ _ _ _ _ form => cases h.symm.trans form
  | vex v _ _ _ make form => cases h.symm.trans form; exact ⟨v, rfl, make⟩

/-! ### What a row makes -/

/-- The immediate of an instruction whose row has one, and 0 where it has none (R105). -/
def rowImm (has : Bool) (imm : Byte) : Byte := if has then imm else 0

/-- The register operand of an instruction of a legacy row, and 0 where `ModRM.reg` is a digit or absent. -/
def LegacyRow.regOperand (r : LegacyRow) (reg : BitVec 4) : BitVec 4 :=
  if r.digit.isSome || r.rm.isNone then 0 else reg

theorem LOp.form_make {l : LOp} {p : Pfx} {reg : BitVec 4} {rm : Rm} {imm : Byte} {i : Instr}
    (h : l.make p reg rm imm = some i) :
    i.form = .legacy l.row p (l.row.regOperand reg) (l.row.rm.map fun _ => rm) (rowImm l.row.imm imm) := by
  cases l <;> cases rm <;> cases h <;> rfl

theorem VOp.form_make {v : VOp} {l : Bool} {o : VexOps} {imm : Byte} {i : Instr}
    (h : v.make l o imm = some i) : i.form = .vex v.row l o (rowImm v.row.imm imm) := by
  cases v <;> cases l <;> cases h <;> rfl

theorem EOp.form_make (e : EOp) (vl : VL) (o : EvexOps Rm) (imm : Byte) :
    (e.make vl o imm).form = .evex e.row vl o (rowImm e.row.imm imm) := by
  cases e <;> cases vl <;> rfl

theorem POp.form_makeMem (e : POp) (vl : VL) (o : EvexOps Mem) :
    (e.makeMem vl o).form = .evex e.memRow vl o.anyMem 0 := by
  cases e <;> cases vl <;> rfl

theorem POp.form_makeReg (e : POp) (vl : VL) (o : EvexOps (BitVec 5)) :
    (e.makeReg vl o).form = .evex e.regRow vl o.anyReg 0 := by
  cases e <;> cases vl <;> rfl

theorem EvexSel.form_make {e : EvexSel} {vl : VL} {o : EvexOps Rm} {imm : Byte} {i : Instr}
    (h : e.make vl o imm = some i) : i.form = .evex e.row vl o (rowImm e.row.imm imm) := by
  obtain ⟨p, reg, vvvv, rm, aaa, z, b⟩ := o
  cases e with
  | gen e => cases h; exact e.form_make _ _ _
  | mem e =>
    cases rm with
    | reg r => cases h
    | mem m => cases h; cases e <;> exact POp.form_makeMem _ _ _
  | reg e =>
    cases rm with
    | reg r => cases h; cases e <;> exact POp.form_makeReg _ _ _
    | mem m => cases h

end Sys2Proof
end

section
/-! PROOFS. The invariant: each state operation keeps it, so every instruction, every look at a wait and the
environment do, and with them every step. -/

namespace Sys2Proof.Machine

/-! ### What the leaf of PCONFIG can do -/

/-- All that the leaf can do: answer a failing check, run out of entropy, or write one entry (R187 to R191). -/
theorem State.keyProgram_cases (s : State) (t : List Byte) :
    (∃ code, s.keyError t = some code ∧ s.keyProgram t = (code, s)) ∨
    s.keyError t = none ∧
      ((∃ d, s.keyProgram t = (entropyError,
          { (if s.cfg.pconfigEntropyReleasesLock then s else { s with keyLock := .exclusive .self }) with
            draws := d })) ∨
        ∃ e d, s.keyProgram t = (progSuccess, { s.setKey (field t 0 2 16).toNat e with draws := d })) := by
  unfold State.keyProgram
  cases s.keyError t with
  | some code => exact .inl ⟨code, rfl, rfl⟩
  | none =>
    refine .inr ⟨rfl, ?_⟩
    simp only [State.program]
    split
    · exact .inr ⟨_, _, rfl⟩
    split
    · cases Config.entropy s.draws with
      | none => exact .inl ⟨_, rfl⟩
      | some d1 =>
        cases Config.entropy (s.draws + 1) with
        | none => exact .inl ⟨_, rfl⟩
        | some d2 => exact .inr ⟨_, _, rfl⟩
    split
    · exact .inr ⟨_, _, rfl⟩
    · exact .inr ⟨_, _, rfl⟩

/-! ### Deadlines -/

/-- A deadline is a 64-bit value: the instruction's own is, and the system's is used only below it (R205). -/
theorem State.deadline_lt (s : State) : s.deadline.1 < 2 ^ 64 := by
  have own : s.instrDeadline < 2 ^ 64 := BitVec.isLt _
  simp only [State.deadline]
  split
  · exact lt_trans (by assumption : _ ∧ _).2 own
  · exact own

/-! ### The state operations -/

section
variable {s : State} (h : Inv s)
include h

theorem Inv.advance (n : Nat) : Inv (s.advance n) := { h with }

theorem Inv.draw (d : Nat) : Inv { s with draws := d } := { h with }

theorem Inv.forgetStores : Inv { s with written := [] } := { h with }

theorem Inv.arm (la : Word) : Inv (s.arm la) := { h with }

theorem Inv.setZmm (r : BitVec 5) {v : Vec} (hv : ∀ n, s.cfg.maxvl.bits ≤ n → v.getLsbD n = false) :
    Inv (s.setZmm r v) :=
  { h with
    vectors := fun q n hn => by
      by_cases e : q = r
      · rw [e, State.zmmAt_setZmm_self]; exact hv n hn
      · rw [State.zmmAt_setZmm_ne _ _ e]; exact h.vectors q n hn }

theorem Inv.setK (r : BitVec 3) {v : Mask} (hv : ∀ n, s.cfg.maxKl ≤ n → v.getLsbD n = false) :
    Inv (s.setK r v) :=
  { h with
    masks := fun q n hn => by
      by_cases e : q = r
      · rw [e, State.kAt_setK_self]; exact hv n hn
      · rw [State.kAt_setK_ne _ _ e]; exact h.masks q n hn }

theorem Inv.landStore {pas : List Nat} (hp : ∀ a ∈ pas, a < 2 ^ 64) (bs : List Byte) :
    Inv (s.landStore pas bs) :=
  { h with
    memory := writeBytes_wf h.memory pas bs
    addresses := fun c hc => (mem_writeBytes hc).elim (hp c.1) (h.addresses c) }

theorem Inv.store (la : Word) (bs : List Byte) : Inv (s.store la bs) :=
  { h.landStore (fun _ ha => State.mem_places_lt ha) bs with }

theorem Inv.setKey {id : Nat} (hid : 0 < id ∧ id < 2 ^ 16) (e : KeyEntry) : Inv (s.setKey id e) :=
  { h with
    keys := sparseWf_sparseSet h.keys id e
    keyids := fun c hc => (mem_sparseSet hc).elim (fun ⟨hc, _⟩ => hc ▸ hid) (h.keyids c) }

/-- Writing the status flags leaves bit 1 of RFLAGS (R25). -/
theorem Inv.writeStatus (f : StatusFlags) : Inv { s with rflags := writeStatus s.rflags f } :=
  { h with bit1 := (getLsbD_writeStatus _ _ (by decide)).trans h.bit1 }

theorem Inv.setLock {l : KeyLock} (hl : s.cfg.pconfigEntropyReleasesLock = true → l ≠ .exclusive .self) :
    Inv { s with keyLock := l } := { h with lock := hl }

theorem Inv.setWait {w : WaitState} (hw : ∀ v, w = .waiting v → v.deadline < 2 ^ 64) :
    Inv { s with wait := w } := { h with deadline := hw }

theorem Inv.setPending (es : List Event) : Inv { s with pending := es } := { h with }

theorem Inv.setRacing (r : List (Nat × Byte)) : Inv { s with racing := r } := { h with }

/-! ### Waits, PCONFIG and the environment -/

theorem Inv.resumeWait {w : Wait} {t : State} (hw : w.deadline < 2 ^ 64) (run : s.resumeWait w = .ok t) :
    Inv t := by
  obtain ⟨-, ⟨-, rfl⟩ | ⟨-, rfl⟩⟩ := State.resumeWait_ok.mp run
  · exact { h with deadline := fun _ e => WaitState.waiting.inj e ▸ hw }
  · exact { h.writeStatus _ with deadline := nofun }

theorem Inv.keyProgram (t : List Byte) : Inv (s.keyProgram t).2 := by
  rcases s.keyProgram_cases t with ⟨code, -, e⟩ | ⟨checks, ⟨d, e⟩ | ⟨k, d, e⟩⟩ <;> rw [e]
  · exact h
  · by_cases release : s.cfg.pconfigEntropyReleasesLock = true
    · rw [if_pos release]; exact h.draw d
    · rw [if_neg release]; exact (h.setLock fun on => absurd on release).draw d
  · obtain ⟨-, ⟨pos, -, -⟩, -, -⟩ := State.keyError_none.mp checks
    exact (h.setKey ⟨pos, (field t 0 2 16).isLt⟩ k).draw d

theorem Inv.pconfigResult (code : Nat) : Inv (s.pconfigResult code) :=
  { h.writeStatus (pconfigFlags code) with }

/-- Waking a wait leaves its deadline. -/
theorem Inv.wakeByStore (pas : List Nat) : Inv { s with wait := s.wakeByStore pas } := by
  refine h.setWait fun v hv => ?_
  unfold State.wakeByStore at hv
  split at hv
  · cases hv
  · rename_i w hw
    split at hv <;> exact WaitState.waiting.inj hv ▸ h.deadline w hw

theorem Inv.applyInput (i : Input) : Inv (s.applyInput i) := by
  cases i with
  | raiseEvent e => exact h.setPending _
  | lowerEvent e => exact h.setPending _
  | store cells =>
    have places : ∀ a ∈ cells.map (·.1.toNat), a < 2 ^ 64 := fun a ha => by
      obtain ⟨c, -, rfl⟩ := List.mem_map.mp ha
      exact c.1.isLt
    exact { h.landStore places _ with deadline := (h.wakeByStore _).deadline }
  | lockKeys n =>
    refine h.setLock fun on => ?_
    split
    · simp
    · exact h.lock on
  | unlockKeys n =>
    refine h.setLock fun on => ?_
    split
    · simp
    · exact h.lock on
  | programKey n id e =>
    simp only [State.applyInput]
    split
    · rename_i held
      exact h.setKey ⟨Nat.pos_of_ne_zero fun z => held.2 (BitVec.eq_of_toNat_eq z), id.isLt⟩ e
    · exact h

theorem Inv.landInput : Inv s.landInput := by
  have begun (is : List Input) : Inv { s with inputs := is, racing := [] } := { h with }
  unfold State.landInput
  split
  · exact h.setRacing []
  · exact (begun _).applyInput _

theorem Inv.beginStep : Inv s.beginStep := { h.landInput with }

/-! ### Instructions -/

/-- An EVEX form runs only where the registers have all the bits of the model's (R6), so it writes none above
them. -/
theorem Inv.evex_setZmm {i : Instr} {r : EvexRow} {vl : VL} {o : EvexOps Rm} {imm : Byte}
    (form : i.form = .evex r vl o imm) (ready : s.EvexReady r vl o) (q : BitVec 5) (v : Vec) :
    Inv (s.setZmm q v) := by
  obtain ⟨e, rfl, -⟩ := Instr.row_of_evex form
  refine h.setZmm q fun n hn => v.getLsbD_of_ge n ?_
  rwa [ready.legal.widths.1] at hn

theorem Inv.evex_setK {i : Instr} {r : EvexRow} {vl : VL} {o : EvexOps Rm} {imm : Byte}
    (form : i.form = .evex r vl o imm) (ready : s.EvexReady r vl o) (q : BitVec 3) (v : Mask) :
    Inv (s.setK q v) := by
  obtain ⟨e, rfl, -⟩ := Instr.row_of_evex form
  refine h.setK q fun n hn => v.getLsbD_of_ge n ?_
  rwa [ready.legal.widths.2] at hn

/-- A VEX form writes zeros above its vector length, which MAXVL holds. -/
theorem Inv.vex_setZmm {r : VexRow} {vl : VL} {o : VexOps} (ready : s.VexReady r vl o) {w : Nat}
    (f : Nat → BitVec w) (q : BitVec 5) : Inv (s.setZmm q (pack w (vlElems vl w) f)) :=
  h.setZmm q fun n hn => getLsbD_pack_above f <| calc
    w * vlElems vl w ≤ 8 * vlBytes vl := Nat.mul_div_le _ _
    _ ≤ n := ready.legal.length.trans hn

/-- A legacy-SSE form writes the 128 low bits, which every MAXVL has. -/
theorem Inv.sse_setZmm (q : BitVec 5) (v : Vec) : Inv (s.setZmm q (keepUpper (s.zmmAt q) v)) :=
  h.setZmm q fun n hn => by
    have low : 128 ≤ s.cfg.maxvl.bits := by cases s.cfg.maxvl <;> decide
    rw [getLsbD_keepUpper, if_neg (by omega)]
    exact h.vectors q n hn

theorem Inv.exec {i : Instr} {t : State} (run : exec i s = .next t) : Inv t := by
  cases shape i with
  | sse _ r => rw [r, sseOp_next] at run; obtain ⟨-, _, -, rfl⟩ := run; exact (h.sse_setZmm _ _).advance _
  | vex _ r =>
    rw [r, vexOp_next] at run; obtain ⟨ready, _, -, rfl⟩ := run
    exact (h.vex_setZmm ready _ _).advance _
  | evex f r =>
    rw [r, evexOp_next] at run; obtain ⟨ready, _, -, rfl⟩ := run
    exact (h.evex_setZmm f ready _ _).advance _
  | shufbit f r =>
    rw [r, shufbit_next] at run; obtain ⟨ready, _, -, rfl⟩ := run
    exact (h.evex_setK f ready _ _).advance _
  | compressReg f r =>
    rw [r, compressReg_next] at run; obtain ⟨ready, rfl⟩ := run
    exact (h.evex_setZmm f ready _ _).advance _
  | expandReg f r =>
    rw [r, expandReg_next] at run; obtain ⟨ready, rfl⟩ := run
    exact (h.evex_setZmm f ready _ _).advance _
  | expandLoad f r =>
    rw [r, expandLoad_next] at run; obtain ⟨ready, -, rfl⟩ := run
    exact (h.evex_setZmm f ready _ _).advance _
  | compressStore _ _ r =>
    rw [r, compressStore_next] at run; obtain ⟨-, -, rfl⟩ := run
    split
    · exact h.advance _
    · exact (h.store _ _).advance _
  | movdiri _ r =>
    rw [r, movdiri_next] at run; obtain ⟨-, -, _, -, -, -, rfl⟩ := run
    exact (h.store _ _).advance _
  | movdir64b name =>
    subst name; obtain ⟨-, _, -, _, -, -, -, -, rfl⟩ := execMovdir64b_next.mp run
    exact (h.store _ _).advance _
  | cldemote name =>
    subst name; obtain ⟨-, ⟨-, rfl⟩ | ⟨-, -, rfl⟩⟩ := execCldemote_next.mp run
    · exact h.advance _
    · exact (h.draw _).advance _
  | wbnoinvd name =>
    subst name; obtain ⟨-, -, -, -, -, -, rfl⟩ := execWbnoinvd_next.mp run
    exact h.forgetStores.advance _
  | pconfig name =>
    subst name; obtain ⟨-, _, -, -, rfl⟩ := execPconfig_next.mp run
    exact ((h.keyProgram _).pconfigResult _).advance _
  | umonitor name =>
    subst name; obtain ⟨-, -, _, -, _, -, -, -, -, rfl⟩ := execUmonitor_next.mp run
    exact (h.arm _).advance _
  | tpause name =>
    subst name; obtain ⟨_, -, run⟩ := execTpause_next.mp run; exact h.resumeWait s.deadline_lt run
  | umwait name =>
    subst name; obtain ⟨_, -, -, run⟩ := execUmwait_next.mp run; exact h.resumeWait s.deadline_lt run

end

/-- Settles O10: what happens before a step keeps the invariant (`Inv.beginStep`), and so does what the
step then is, a look at a wait (`Inv.resumeWait`) or an instruction (`Inv.exec`). -/
theorem stepKeepsInvariant : Obligations.StepKeepsInvariant := by
  intro s t h run
  rcases step_next.mp run with ⟨w, hw, run⟩ | ⟨-, i, -, run, -⟩
  · exact h.beginStep.resumeWait (h.beginStep.deadline w hw) run
  · exact h.beginStep.exec run

/-- Settles O9: after reset every list is empty, every register of the vector unit is 0, and the rest are
closed values. -/
theorem resetKeepsInvariant : Obligations.ResetKeepsInvariant where
  memory := ⟨.nil, nofun⟩
  addresses := nofun
  keys := ⟨.nil, nofun⟩
  keyids := nofun
  bit1 := by decide
  deadline := nofun
  lock := nofun
  vmx _ := rfl
  tsx _ := rfl
  vectors r n _ := by simp [State.zmmAt, State.reset]
  masks r n _ := by simp [State.kAt, State.reset]

end Sys2Proof.Machine
end

section
/-! PROOFS. The step: what every instruction leaves as it was and what it changes, one look at a wait, and what
happens before an instruction starts. -/

namespace Sys2Proof.Machine

/-! ### One look at a wait -/

/-- The end of a wait is a time that TSC can show, and not before now (R208, D11). -/
theorem State.endTime_range (s : State) : s.tsc.toNat ≤ s.endTime ∧ s.endTime < 2 ^ 64 := by
  have room : 0 < 2 ^ 64 - s.tsc.toNat := Nat.sub_pos_of_lt s.tsc.isLt
  have := Nat.mod_lt (Config.elapsed s.draws).toNat room
  simp only [State.endTime]
  omega

theorem State.waitEnds_endWait (s : State) (w : Wait) :
    WaitEnds w.deadline w.usingOs w.len s (s.endWait w) := by
  obtain ⟨later, top⟩ := s.endTime_range
  have time : (s.endWait w).tsc.toNat = s.endTime := Nat.mod_eq_of_lt top
  exact
    { wait := rfl
      tsc := time ▸ later
      flags := by rw [time]; exact statusOf_writeStatus _ _
      other := fun _ h => getLsbD_writeStatus _ _ h
      frame := ⟨fun _ _ => rfl, fun _ _ => rfl, fun _ _ => rfl, fun _ _ => rfl,
        ⟨rfl, rfl, rfl, rfl, rfl, rfl, rfl, rfl, rfl, rfl⟩⟩
      keys := ⟨rfl, rfl⟩
      monitor := ⟨rfl, rfl⟩
      rip := rfl }

theorem State.waitGoesOn_waiting (s : State) (w : Wait) (d : Nat) :
    WaitGoesOn w s { s with wait := .waiting w, draws := d } :=
  ⟨rfl, rfl, rfl, ⟨fun _ _ => rfl, fun _ _ => rfl, fun _ _ => rfl, fun _ _ => rfl,
    ⟨rfl, rfl, rfl, rfl, rfl, rfl, rfl, rfl, rfl, rfl⟩⟩, ⟨rfl, rfl⟩, ⟨rfl, rfl⟩, rfl⟩

/-- A look at a wait that answers a next state leaves the wait to go on or ends it (R203, R204). -/
theorem State.resumeWait_result {s t : State} {w : Wait} (run : s.resumeWait w = .ok t) :
    s.keepsWaiting w = true ∧ WaitGoesOn w s t ∨
      s.keepsWaiting w = false ∧ WaitEnds w.deadline w.usingOs w.len s t := by
  obtain ⟨-, ⟨goes, rfl⟩ | ⟨ends, rfl⟩⟩ := State.resumeWait_ok.mp run
  · exact .inl ⟨goes, s.waitGoesOn_waiting w _⟩
  · exact .inr ⟨ends, s.waitEnds_endWait w⟩

/-- A look at a wait answers a next state unless RESET# is pending (R206, R351). -/
theorem State.resumeWait_next {s : State} (reset : Event.reset ∉ s.pending) (w : Wait) :
    ∃ t, s.resumeWait w = .ok t := by
  have quiet : s.pending.contains .reset = false := by simpa using reset
  cases goes : s.keepsWaiting w
  · exact ⟨_, State.resumeWait_ok.mpr ⟨quiet, .inr ⟨goes, rfl⟩⟩⟩
  · exact ⟨_, State.resumeWait_ok.mpr ⟨quiet, .inl ⟨goes, rfl⟩⟩⟩

theorem State.resumeWait_reset {s : State} (reset : Event.reset ∈ s.pending) (w : Wait) :
    s.resumeWait w = .error (.fault .resetSignal) := by
  rw [State.resumeWait, if_pos (by simpa using reset)]

theorem State.monitorHolds_umwait {s : State} :
    s.monitorHolds .umwait = true ↔ s.monitor.armed = true ∧ s.monitor.setBy = .umonitor := by
  simp [State.monitorHolds]

/-- What a wait needs to go on (R203, R204, R206). -/
theorem State.keepsWaiting_needs {s : State} {w : Wait} (goes : s.keepsWaiting w = true) :
    s.tsc.toNat < w.deadline ∧ s.pending = [] ∧ w.woken = false ∧
      (w.op = .umwait → s.monitor.armed = true ∧ s.monitor.setBy = .umonitor) := by
  simp only [State.keepsWaiting, Bool.and_eq_true, decide_eq_true_eq, List.isEmpty_iff,
    Bool.not_eq_true'] at goes
  obtain ⟨⟨⟨⟨time, events⟩, woken⟩, monitor⟩, -⟩ := goes
  exact ⟨time, events, woken, fun op => State.monitorHolds_umwait.mp (op ▸ monitor)⟩

/-! ### What an instruction leaves, by its effect -/

/-- The leaf of PCONFIG changes the key table, its lock and the count of free values only. -/
theorem State.keyProgram_state (s : State) (t : List Byte) :
    ∃ table lock d, (s.keyProgram t).2 = { s with keyTable := table, keyLock := lock, draws := d } := by
  rcases s.keyProgram_cases t with ⟨code, -, e⟩ | ⟨-, ⟨d, e⟩ | ⟨k, d, e⟩⟩ <;> rw [e]
  · exact ⟨_, _, _, rfl⟩
  · dsimp only
    split <;> exact ⟨_, _, _, rfl⟩
  · exact ⟨_, _, _, rfl⟩

/-- Whatever the leaf answers, PCONFIG returns it (R186). -/
theorem State.pconfigReturns_keyProgram (s : State) (t : List Byte) (len : Nat) :
    PconfigReturns (s.keyProgram t).1 len s
      (((s.keyProgram t).2.pconfigResult (s.keyProgram t).1).advance len) := by
  obtain ⟨table, lock, d, e⟩ := s.keyProgram_state t
  rw [e]
  exact s.pconfigReturns_result table lock d _ len

/-- What every instruction that is not PCONFIG, TPAUSE or UMWAIT leaves. -/
structure LeavesSystem (i : Instr) (s t : State) : Prop where
  gpr : t.gpr = s.gpr
  rflags : t.rflags = s.rflags
  fixed : SameFixed s t
  keys : SameKeys s t
  time : SameTime s t
  rip : t.rip = s.rip + BitVec.ofNat 64 i.len

/-- An instruction is one of those, or PCONFIG, which returns, or TPAUSE or UMWAIT, which look at a wait. -/
theorem exec_outcomes {i : Instr} {s t : State} (run : exec i s = .next t) :
    LeavesSystem i s t ∨
    (∃ p code, i = .pconfig p ∧ s.PconfigReady p ∧ PconfigReturns code i.len s t) ∨
    ∃ w, w.deadline = s.deadline.1 ∧ w.len = i.len ∧ (∃ p rm, i = .tpause p rm ∨ i = .umwait p rm) ∧
      s.resumeWait w = .ok t := by
  cases exec_effect run with
  | vector r v h | mask r v h | store la bs h _ | ripOnly h | drawOnly h | fence h | arm la h =>
    subst h
    exact .inl ⟨rfl, rfl, ⟨rfl, rfl, rfl, rfl, rfl, rfl, rfl, rfl, rfl, rfl⟩, ⟨rfl, rfl⟩, ⟨rfl, rfl⟩, rfl⟩
  | key p la name ready h => subst h; exact .inr (.inl ⟨p, _, name, ready, s.pconfigReturns_keyProgram _ _⟩)
  | wait w deadline len name run => exact .inr (.inr ⟨w, deadline, len, name, run⟩)

theorem exec_sameFixed {i : Instr} {s t : State} (run : exec i s = .next t) : SameFixed s t := by
  rcases exec_outcomes run with leaves | ⟨_, _, -, -, returns⟩ | ⟨w, -, -, -, look⟩
  · exact leaves.fixed
  · exact returns.frame.fixed
  · rcases State.resumeWait_result look with ⟨-, goes⟩ | ⟨-, ends⟩
    · exact goes.frame.fixed
    · exact ends.frame.fixed

/-- No instruction changes a bit of RFLAGS other than the six status flags (R26). -/
theorem exec_rflags {i : Instr} {s t : State} (run : exec i s = .next t) {n : Nat}
    (other : statusMask.getLsbD n = false) : t.rflags.getLsbD n = s.rflags.getLsbD n := by
  rcases exec_outcomes run with leaves | ⟨_, _, -, -, returns⟩ | ⟨w, -, -, -, look⟩
  · rw [leaves.rflags]
  · exact returns.other n other
  · rcases State.resumeWait_result look with ⟨-, goes⟩ | ⟨-, ends⟩
    · rw [goes.rflags]
    · exact ends.other n other

/-- Only the stores change a byte of memory (R86). -/
theorem exec_byteAt {i : Instr} {s t : State} (run : exec i s = .next t) :
    (∀ a, t.byteAt a = s.byteAt a) ∨
      (∃ p m r, i = .movdiri32 p m r ∨ i = .movdiri64 p m r ∨ i = .movdir64b p r m) ∨
      (∃ (e : POp) (vl : VL) (o : EvexOps Mem),
        (e = .vpcompressb ∨ e = .vpcompressw) ∧ i = e.makeMem vl o) := by
  cases exec_effect run with
  | store la bs h name => exact .inr name
  | vector r v h | mask r v h | ripOnly h | drawOnly h | fence h | arm la h =>
    subst h; exact .inl fun _ => rfl
  | key p la name ready h =>
    subst h; exact .inl fun a => (s.pconfigReturns_keyProgram _ _).frame.byte a List.not_mem_nil
  | wait w _ _ _ look =>
    refine .inl fun a => ?_
    rcases State.resumeWait_result look with ⟨-, goes⟩ | ⟨-, ends⟩
    · exact goes.frame.byte a List.not_mem_nil
    · exact ends.frame.byte a List.not_mem_nil

/-- Settles O13: the stores are the one effect on memory, and PCONFIG, TPAUSE and UMWAIT the only
instructions that do not leave the general registers and the flags. -/
theorem whoChangesWhat : Obligations.WhoChangesWhat := by
  intro i s t run
  refine ⟨fun r => ?_, fun n other => exec_rflags run other, ?_, exec_byteAt run, exec_sameFixed run⟩
  · rcases exec_outcomes run with leaves | ⟨p, _, name, -, returns⟩ | ⟨w, -, -, -, look⟩
    · exact .inl (State.gprAt_congr leaves.gpr r)
    · by_cases zero : r = 0
      · exact .inr ⟨zero, p, name⟩
      · exact .inl (returns.frame.gpr r (by simpa using zero))
    · rcases State.resumeWait_result look with ⟨-, goes⟩ | ⟨-, ends⟩
      · exact .inl (goes.frame.gpr r List.not_mem_nil)
      · exact .inl (ends.frame.gpr r List.not_mem_nil)
  · rcases exec_outcomes run with leaves | ⟨p, _, name, -, -⟩ | ⟨_, -, -, name, -⟩
    · exact .inl leaves.rflags
    · exact .inr (.inl ⟨p, name⟩)
    · exact .inr (.inr name)

/-- Settles O12: TPAUSE and UMWAIT may leave RIP, and then a wait is in progress; every other
completion moves it. -/
theorem ripMovesPastInstruction : Obligations.RipMovesPastInstruction := by
  intro i s t running run
  rcases exec_outcomes run with leaves | ⟨_, _, -, -, returns⟩ | ⟨w, -, len, name, look⟩
  · exact .inl ⟨leaves.time.wait.trans running, leaves.rip⟩
  · exact .inl ⟨returns.time.wait.trans running, returns.rip⟩
  · rcases State.resumeWait_result look with ⟨-, goes⟩ | ⟨-, ends⟩
    · exact .inr ⟨name, ⟨w, goes.wait⟩, goes.rip⟩
    · exact .inl ⟨ends.wait, len ▸ ends.rip⟩

/-! ### Before an instruction -/

/-- TSC counts on without passing its top (R48, D11), and over a wait it is higher unless it is at its top
(R343). -/
theorem State.laterTsc_range (s : State) :
    s.tsc.toNat ≤ s.laterTsc ∧ s.laterTsc < 2 ^ 64 ∧
      (s.wait ≠ .running → s.tsc.toNat + 1 < 2 ^ 64 → s.tsc.toNat < s.laterTsc) := by
  have top : s.tsc.toNat < 2 ^ 64 := s.tsc.isLt
  have counts : ∀ least, least < 2 ^ 64 →
      least + (Config.elapsed s.draws).toNat % (2 ^ 64 - least) < 2 ^ 64 := fun least h => by
    have := Nat.mod_lt (Config.elapsed s.draws).toNat (Nat.sub_pos_of_lt h)
    omega
  simp only [State.laterTsc]
  split
  · rename_i h
    have := counts (s.tsc.toNat + 1) h.2
    refine ⟨by omega, this, fun _ _ => by omega⟩
  · rename_i h
    exact ⟨by omega, counts _ top, fun hw ht => absurd ⟨hw, ht⟩ h⟩

theorem State.tick_tsc_toNat (s : State) : s.tick.tsc.toNat = s.laterTsc :=
  Nat.mod_eq_of_lt s.laterTsc_range.2.1

/-- What the environment and the counting of TSC leave. -/
structure LeavesMode (s t : State) : Prop where
  cfg : t.cfg = s.cfg
  segs : t.segs = s.segs
  ctl : t.ctl = s.ctl
  msr : t.msr = s.msr
  vmx : t.vmx = s.vmx
  tsx : t.tsx = s.tsx
  pages : t.pages = s.pages
  rflags : ∀ n, statusMask.getLsbD n = false → t.rflags.getLsbD n = s.rflags.getLsbD n
  tsc : s.tsc.toNat ≤ t.tsc.toNat

theorem LeavesMode.trans {s t u : State} (h : LeavesMode s t) (k : LeavesMode t u) : LeavesMode s u :=
  ⟨k.cfg.trans h.cfg, k.segs.trans h.segs, k.ctl.trans h.ctl, k.msr.trans h.msr, k.vmx.trans h.vmx,
    k.tsx.trans h.tsx, k.pages.trans h.pages, fun n o => (k.rflags n o).trans (h.rflags n o),
    h.tsc.trans k.tsc⟩

/-- Mode and CPL are read from what is left, and from bit 17 of RFLAGS, which is no status flag (R30, R31). -/
theorem LeavesMode.mode {s t : State} (h : LeavesMode s t) : t.mode = s.mode := by
  simp only [State.mode, h.ctl, h.segs, h.rflags 17 (by decide)]

theorem LeavesMode.cpl {s t : State} (h : LeavesMode s t) : t.cpl = s.cpl := by
  simp only [State.cpl, h.mode, h.segs]

theorem SameFixed.leavesMode {s t : State} (h : SameFixed s t)
    (rflags : ∀ n, statusMask.getLsbD n = false → t.rflags.getLsbD n = s.rflags.getLsbD n)
    (tsc : s.tsc.toNat ≤ t.tsc.toNat) : LeavesMode s t :=
  ⟨h.cfg, h.segs, h.ctl, h.msr, h.vmx, h.tsx, h.pages, rflags, tsc⟩

theorem State.leavesMode_applyInput (s : State) (i : Input) : LeavesMode s (s.applyInput i) := by
  cases i with
  | programKey n id e =>
    simp only [State.applyInput]
    split <;> exact ⟨rfl, rfl, rfl, rfl, rfl, rfl, rfl, fun _ _ => rfl, le_rfl⟩
  | raiseEvent e | lowerEvent e | store cells | lockKeys n | unlockKeys n =>
    exact ⟨rfl, rfl, rfl, rfl, rfl, rfl, rfl, fun _ _ => rfl, le_rfl⟩

theorem State.leavesMode_landInput (s : State) : LeavesMode s s.landInput := by
  unfold State.landInput
  split
  · exact ⟨rfl, rfl, rfl, rfl, rfl, rfl, rfl, fun _ _ => rfl, le_rfl⟩
  · rename_i i is _
    exact LeavesMode.trans (t := { s with inputs := is, racing := [] })
      ⟨rfl, rfl, rfl, rfl, rfl, rfl, rfl, fun _ _ => rfl, le_rfl⟩ (State.leavesMode_applyInput _ i)

theorem State.leavesMode_beginStep (s : State) : LeavesMode s s.beginStep :=
  s.leavesMode_landInput.trans ⟨rfl, rfl, rfl, rfl, rfl, rfl, rfl, fun _ _ => rfl,
    (State.tick_tsc_toNat _).symm ▸ (State.laterTsc_range _).1⟩

theorem State.leavesMode_resumeWait {s t : State} {w : Wait} (look : s.resumeWait w = .ok t) :
    LeavesMode s t := by
  rcases State.resumeWait_result look with ⟨-, goes⟩ | ⟨-, ends⟩
  · exact goes.frame.fixed.leavesMode (fun _ _ => by rw [goes.rflags]) (by rw [goes.tsc])
  · exact ends.frame.fixed.leavesMode ends.other ends.tsc

theorem exec_leavesMode {i : Instr} {s t : State} (run : exec i s = .next t) : LeavesMode s t := by
  rcases exec_outcomes run with leaves | ⟨_, _, -, -, returns⟩ | ⟨w, -, -, -, look⟩
  · exact leaves.fixed.leavesMode (fun _ _ => by rw [leaves.rflags]) (by rw [leaves.time.tsc])
  · exact returns.frame.fixed.leavesMode returns.other (by rw [returns.time.tsc])
  · exact State.leavesMode_resumeWait look

theorem step_leavesMode {s t : State} (run : step s = .next t) : LeavesMode s t := by
  refine s.leavesMode_beginStep.trans ?_
  rcases step_next.mp run with ⟨w, -, look⟩ | ⟨-, i, -, run, -⟩
  · exact State.leavesMode_resumeWait look
  · exact exec_leavesMode run

/-- Settles O11: nothing that a step does touches what mode and privilege are read from. -/
theorem modeAndPrivilegeStay : Obligations.ModeAndPrivilegeStay := fun _ _ run =>
  have h := step_leavesMode run
  ⟨h.cfg, h.segs, h.ctl, h.msr, h.vmx, h.tsx, h.pages, h.mode, h.cpl⟩

theorem State.beginStep_of_no_inputs {s : State} (none : s.inputs = []) :
    s.beginStep = { s with tsc := s.beginStep.tsc, racing := [], draws := s.draws + 1 } := by
  simp only [State.beginStep, State.landInput, none]
  rfl

/-- Settles O6: TSC counts on in `tick` and at the end of a wait, and nothing else writes it. -/
theorem timeMovesForward : Obligations.TimeMovesForward := by
  refine ⟨fun s t run => (step_leavesMode run).tsc, fun s none =>
    ⟨State.beginStep_of_no_inputs none, fun w hw room => ?_⟩⟩
  have land : s.landInput = { s with racing := [] } := by simp only [State.landInput, none]
  rw [State.beginStep, State.tick_tsc_toNat, land]
  exact (State.laterTsc_range _).2.2 (fun running => by cases hw.symm.trans running) room

/-- Settles O7: without an input the wait is as it was, and one look at it (`resumeWait`) goes on,
completes, or meets RESET#. -/
theorem stepOfAWait : Obligations.StepOfAWait := by
  intro s w none hw t
  have begun : t = { s with tsc := t.tsc, racing := [], draws := s.draws + 1 } :=
    State.beginStep_of_no_inputs none
  have wait : t.wait = .waiting w := by rw [begun, hw]
  have pending : t.pending = s.pending := by rw [begun]
  have monitor : t.monitor = s.monitor := by rw [begun]
  have looks : step s = finish (t.resumeWait w) := by
    change (match t.wait with | .waiting w => _ | .running => _) = _
    rw [wait]
  refine ⟨fun reset => ?_, fun quiet => ?_⟩
  · rw [looks, State.resumeWait_reset (pending ▸ reset)]; rfl
  · obtain ⟨u, look⟩ := State.resumeWait_next (s := t) (pending ▸ quiet) w
    refine ⟨u, by rw [looks, look]; rfl, ?_⟩
    rcases State.resumeWait_result look with ⟨keeps, goes⟩ | ⟨-, ends⟩
    · obtain ⟨time, events, woken, armed⟩ := State.keepsWaiting_needs keeps
      rw [pending] at events
      rw [monitor] at armed
      refine ⟨.inl ⟨goes, time, events, woken, armed⟩, ?_⟩
      rintro (passed | event | wakes | ⟨op, unarmed | other⟩)
      · omega
      · exact absurd events event
      · cases woken.symm.trans wakes
      · cases unarmed.symm.trans (armed op).1
      · exact absurd (armed op).2 other
    · exact ⟨.inr ends, fun _ => ends⟩

/-- Only PCONFIG changes the key table or its lock, and it needs CPL 0 (R180). -/
theorem exec_sameKeys {i : Instr} {s t : State} (user : s.cpl ≠ 0) (run : exec i s = .next t) :
    SameKeys s t := by
  rcases exec_outcomes run with leaves | ⟨_, _, -, ready, -⟩ | ⟨w, -, -, -, look⟩
  · exact leaves.keys
  · exact absurd ready.cpl user
  · rcases State.resumeWait_result look with ⟨-, goes⟩ | ⟨-, ends⟩
    · exact goes.keys
    · exact ends.keys

/-- Settles O17: without an input nothing but PCONFIG touches the keys, and CPL is the same when it
looks. -/
theorem userKeepsKeys : Obligations.UserKeepsKeys := by
  intro s t user none run
  have begun : SameKeys s s.beginStep := by
    rw [State.beginStep_of_no_inputs none]; exact ⟨rfl, rfl⟩
  have same : SameKeys s.beginStep t := by
    rcases step_next.mp run with ⟨w, -, look⟩ | ⟨-, i, -, run, -⟩
    · rcases State.resumeWait_result look with ⟨-, goes⟩ | ⟨-, ends⟩
      · exact goes.keys
      · exact ends.keys
    · exact exec_sameKeys (s.leavesMode_beginStep.cpl ▸ user) run
  exact ⟨same.table.trans begun.table, same.lock.trans begun.lock⟩

/-! ### The instruction that a step runs -/

theorem State.guardFetch_ok {s : State} {n : Nat} {u : Unit} :
    s.guardFetch n = .ok u ↔ s.ripInRange (n - 1) = true ∧ ∀ k, k < n → s.fetchPlace k ∉ s.written := by
  simp [State.guardFetch, bind_ok]

theorem State.guardFetch_ripRange {s : State} {n : Nat} (h : s.ripInRange (n - 1) = false) :
    s.guardFetch n = .error (.refuse .ripRange) := by
  simp [State.guardFetch, h]

theorem State.guardFetch_selfModified {s : State} {n : Nat} (h : s.ripInRange (n - 1) = true)
    (stored : ∃ k, k < n ∧ s.fetchPlace k ∈ s.written) :
    s.guardFetch n = .error (.refuse .selfModified) := by
  have any : (List.range n).any (fun k => s.written.contains (s.fetchPlace k)) = true := by
    simpa using stored
  simp only [State.guardFetch, h, any, Bool.not_true, stopIf_false, stopIf_true, ok_bind]

theorem State.fetch_of_decode {s : State} {i : Instr} {rest : List Byte}
    (d : decode s.mode s.segs.csD s.fetchBytes = .ok (i, rest)) :
    s.fetch = (do s.guardFetch i.len; .ok i) := by
  simp only [State.fetch, d]

/-- A step with no wait in progress fetches an instruction and runs it (R13). -/
theorem step_of_fetch {s t : State} {i : Instr} (begun : s.beginStep = t) (running : t.wait = .running)
    (f : t.fetch = .ok i) : step s = t.guardRip i.len (exec i t) := by
  subst begun
  simp only [step, running, f]

theorem step_of_fetch_error {s t : State} {e : Stop} (begun : s.beginStep = t)
    (running : t.wait = .running) (f : t.fetch = .error e) : step s = e.outcome := by
  subst begun
  simp only [step, running, f]

/-- Settles O5: the fetch passes its guard, and what is left of the step is `exec` under the guard of
RIP. -/
theorem stepRunsDecoded : Obligations.StepRunsDecoded := by
  intro s t i rest begun running d range stored
  have fetched : t.fetch = .ok i := by
    rw [State.fetch_of_decode d, State.guardFetch_ok (u := ()) |>.mpr ⟨range, stored⟩, ok_bind]
  rw [step_of_fetch begun running fetched]
  refine ⟨fun inside => ?_, fun outside u run => ?_, fun f run => ?_, fun r run => ?_⟩
  · cases exec i t <;> simp [State.guardRip, inside]
  · simp [State.guardRip, run, outside]
  · simp [State.guardRip, run]
  · simp [State.guardRip, run]

/-! ### Reset, and seven words -/

/-- Settles O8 from the values of the launch state. -/
theorem resetState : Obligations.ResetState :=
  ⟨rfl, fun _ => rfl, rfl, rfl, rfl, rfl, rfl, rfl⟩

/-- Settles O3 by running the decoder on each word. -/
theorem decodeWords : Obligations.DecodeWords := ⟨rfl, rfl, rfl, rfl, rfl, rfl, rfl⟩

end Sys2Proof.Machine
end

section
/-! PROOFS. UMONITOR, TPAUSE and UMWAIT (44_waitpkg.md): when they complete, where they stop, the deadline of a
wait; and what a store does to the monitor. -/

namespace Sys2Proof.Machine

/-! ### UMONITOR -/

/-- Settles O54: past its checks UMONITOR arms the monitor and moves RIP. -/
theorem umonitor : Obligations.Umonitor := by
  intro p r s la ea g lock feature noTx seg addr pages
  refine ⟨_, execUmonitor_next.mpr ⟨lock, feature, r, rfl, la, seg, addr, pages, noTx, rfl⟩, rfl,
    ⟨fun _ _ => rfl, fun _ _ => rfl, fun _ _ => rfl, fun _ _ => rfl,
      ⟨rfl, rfl, rfl, rfl, rfl, rfl, rfl, rfl, rfl, rfl⟩⟩, rfl, ⟨rfl, rfl⟩, ⟨rfl, rfl⟩, rfl, rfl, rfl⟩

/-! ### TPAUSE and UMWAIT complete -/

/-- A look at a wait, RESET# not pending, ends the wait or leaves it to go on; where the wait may not go on it
ends it. -/
theorem State.resumeWait_completes {s : State} {w : Wait} (reset : Event.reset ∉ s.pending) :
    ∃ t, s.resumeWait w = .ok t ∧
      (s.keepsWaiting w = false → WaitEnds w.deadline w.usingOs w.len s t) ∧
      (WaitEnds w.deadline w.usingOs w.len s t ∨ WaitGoesOn w s t) := by
  obtain ⟨t, look⟩ := State.resumeWait_next reset w
  refine ⟨t, look, ?_⟩
  rcases State.resumeWait_result look with ⟨keeps, goes⟩ | ⟨-, ends⟩
  · exact ⟨fun stops => (by cases keeps.symm.trans stops), .inr goes⟩
  · exact ⟨fun _ => ends, .inl ends⟩

/-- A wait whose deadline has passed, or with an event pending, does not go on (R206). -/
theorem State.keepsWaiting_of_passed {s : State} {w : Wait}
    (h : w.deadline ≤ s.tsc.toNat ∨ s.pending ≠ []) : s.keepsWaiting w = false := by
  refine Bool.eq_false_iff.mpr fun goes => ?_
  obtain ⟨time, events, -, -⟩ := State.keepsWaiting_needs goes
  exact h.elim (fun passed => by omega) fun event => event events

/-- UMWAIT does not wait without a monitor that UMONITOR armed (R204). -/
theorem State.keepsWaiting_of_unarmed {s : State} {w : Wait} (op : w.op = .umwait)
    (h : s.monitor.armed = false ∨ s.monitor.setBy ≠ .umonitor) : s.keepsWaiting w = false := by
  refine Bool.eq_false_iff.mpr fun goes => ?_
  obtain ⟨-, -, -, monitor⟩ := State.keepsWaiting_needs goes
  obtain ⟨armed, setBy⟩ := monitor op
  exact h.elim (fun off => by cases armed.symm.trans off) fun other => other setBy

/-- Settles O58: past its checks TPAUSE takes one look at a new wait. -/
theorem tpause : Obligations.Tpause := by
  intro p r s ready reset ctl len w
  obtain ⟨t, look, ends, result⟩ := State.resumeWait_completes (w := w) reset
  exact ⟨t, execTpause_next.mpr ⟨ctl, State.enterWait_ok.mpr ⟨r, rfl, ready, rfl⟩, look⟩,
    fun passed => ends (State.keepsWaiting_of_passed passed), result⟩

/-- Settles O59: past its checks UMWAIT takes one look at a new wait, which needs the monitor. -/
theorem umwait : Obligations.Umwait := by
  intro p r s ready noTx reset ctl len w
  obtain ⟨t, look, ends, result⟩ := State.resumeWait_completes (w := w) reset
  refine ⟨t, execUmwait_next.mpr ⟨ctl, State.enterWait_ok.mpr ⟨r, rfl, ready, rfl⟩, noTx, look⟩,
    ?_, result⟩
  rintro (off | other | passed)
  · exact ends (State.keepsWaiting_of_unarmed rfl (.inl off))
  · exact ends (State.keepsWaiting_of_unarmed rfl (.inr other))
  · exact ends (State.keepsWaiting_of_passed passed)

/-! ### The deadline -/

/-- MAX_TIME is the MSR with its two low bits cleared (R42). -/
theorem State.maxTime_eq (s : State) : s.maxTime = (s.msr.umwaitControl &&& 0xFFFFFFFC).toNat := by
  have high : s.msr.umwaitControl &&& (0xFFFFFFFC : BitVec 32) =
      s.msr.umwaitControl >>> 2 <<< 2 := by
    generalize s.msr.umwaitControl = v
    refine BitVec.eq_of_getLsbD_eq fun i hi => ?_
    have mask : ∀ i < 32, (0xFFFFFFFC : BitVec 32).getLsbD i = !decide (i < 2) := by decide
    rw [BitVec.getLsbD_and, BitVec.getLsbD_shiftLeft, BitVec.getLsbD_ushiftRight, mask i hi]
    by_cases low : i < 2
    · simp [low]
    · simp [low, hi, show 2 + (i - 2) = i by omega]
  rw [high, State.maxTime]
  simp only [BitVec.toNat_shiftLeft, BitVec.toNat_ushiftRight, Nat.shiftRight_eq_div_pow,
    Nat.shiftLeft_eq]
  have := s.msr.umwaitControl.isLt
  omega

/-- The instruction's own deadline is EDX:EAX (R205). -/
theorem State.instrDeadline_eq (s : State) :
    s.instrDeadline = (s.gprAt 2).toNat % 2 ^ 32 * 2 ^ 32 + (s.gprAt 0).toNat % 2 ^ 32 := by
  simp only [State.instrDeadline, State.edx, State.eax, BitVec.toNat_append, BitVec.toNat_setWidth]
  rw [← Nat.shiftLeft_add_eq_or_of_lt (Nat.mod_lt _ (by decide)), Nat.shiftLeft_eq]

/-- Settles O56: the three cases of `Deadline()`, on the limit and the own deadline as R205 has them. -/
theorem deadline : Obligations.Deadline := by
  intro s limit own
  have hl : s.maxTime = limit := s.maxTime_eq
  have ho : s.instrDeadline = own := s.instrDeadline_eq
  simp only [State.deadline, hl, ho]
  refine ⟨fun zero => ?_, fun some below => if_pos ⟨some, below⟩, fun _ above => ?_⟩
  · exact if_neg fun h => h.1 zero
  · exact if_neg fun h => by omega

/-! ### Where they stop -/

theorem stopIf_pass {α : Type} {c : Bool} {e : Stop} {f : Unit → Except Stop α} (h : c = false) :
    (stopIf c e >>= f) = f () := by
  rw [h, stopIf_false, ok_bind]

theorem finish_bind_fault {α : Type} {x : Except Stop α} {f : α → Except Stop State} {e : Fault}
    (h : x = .error (.fault e)) : finish (x >>= f) = .fault e := by
  rw [h, error_bind, finish_fault]

/-- The three instructions have no memory form and need the feature flag (R200, R203, R204). -/
theorem State.enterWait_ud {s : State} {p : Pfx} {rm : Rm}
    (h : s.hasAll [.waitpkg] = false ∨ ∃ m, rm = .mem m) : s.enterWait p rm = .error s.ud := by
  cases lock : p.has .lock
  · rcases h with feature | ⟨m, rfl⟩
    · simp [State.enterWait, lock, feature]
    · cases feature : s.hasAll [.waitpkg] <;> simp [State.enterWait, lock, feature]
  · simp [State.enterWait, lock]

theorem execUmonitor_ud {s : State} {p : Pfx} {rm : Rm}
    (h : s.hasAll [.waitpkg] = false ∨ ∃ m, rm = .mem m) :
    execUmonitor p rm s = .fault (.exception .ud none none) := by
  cases lock : p.has .lock
  · rcases h with feature | ⟨m, rfl⟩
    · simp [execUmonitor, lock, feature, s.ud_eq]
    · cases feature : s.hasAll [.waitpkg] <;> simp [execUmonitor, lock, feature, s.ud_eq]
  · simp [execUmonitor, lock, s.ud_eq]

/-- UMONITOR past #UD (R200). -/
theorem execUmonitor_reg {s : State} {p : Pfx} {r : BitVec 5} (lock : p.has .lock = false)
    (feature : s.hasAll [.waitpkg] = true) :
    execUmonitor p (.reg r) s = finish (do
      let la ← s.checkLinear (s.monitorExc (monitorSeg p)) (monitorSeg p)
        (truncA (s.asize p) (s.gprAt (r.setWidth 4))) 1 .read
      s.checkPages .read (s.span la 1)
      stopIf s.inTx (.fault .txAbort)
      .ok ((s.arm la).advance (Instr.umonitor p (.reg r)).len)) := by
  simp only [execUmonitor, lock, feature, Bool.not_true, stopIf_false, ok_bind]

/-- Settles O55: #UD and the control word are `enterWait`; UMONITOR's address checks come one after the
other, and both aborts after the faults. -/
theorem waitpkgStops : Obligations.WaitpkgStops := by
  intro p rm s stops
  refine ⟨fun undefined => ⟨execUmonitor_ud undefined, finish_bind_ud (State.enterWait_ud undefined),
    finish_bind_ud (State.enterWait_ud undefined)⟩, ?_⟩
  rintro r rfl lock feature ea g null
  have runs := execUmonitor_reg (s := s) (p := p) (r := r) lock feature
  have legalRuns (legal : s.segOk g ea 1 .read = true) : exec (.umonitor p (.reg r)) s = finish (do
      s.checkPages .read (s.span (s.linear g ea) 1)
      stopIf s.inTx (.fault .txAbort)
      .ok ((s.arm (s.linear g ea)).advance (Instr.umonitor p (.reg r)).len)) := by
    refine runs.trans ?_
    have pass : s.checkLinear (s.monitorExc (monitorSeg p)) (monitorSeg p)
        (truncA (s.asize p) (s.gprAt (r.setWidth 4))) 1 .read = .ok (s.linear g ea) :=
      State.checkLinear_pass _ legal
    rw [pass, ok_bind]
  refine ⟨fun big i name => ?_, fun illegal => ?_, fun legal => ⟨fun a c faults => ?_, fun ok tx => ?_⟩,
    fun ready tx => ?_⟩
  · have reserved : ((s.gprAt (r.setWidth 4)).setWidth 32 : BitVec 32) >>> 1 ≠ 0 := fun zero => by
      have := congrArg BitVec.toNat zero
      rw [BitVec.toNat_ushiftRight, Nat.shiftRight_eq_div_pow] at this
      have : ((s.gprAt (r.setWidth 4)).setWidth 32 : BitVec 32).toNat / 2 = 0 := this
      omega
    have stop := State.enterWait_gp lock feature reserved
    rcases name with rfl | rfl <;> exact finish_bind_gp stop
  · have stop : exec (.umonitor p (.reg r)) s = .fault (.exception (s.monitorExc g) s.code0 none) := by
      refine runs.trans (finish_bind_fault ?_)
      exact State.checkLinear_fail _ illegal
    rw [stop]
    refine ⟨fun ss valid => ?_, fun other => ?_⟩
    · rw [State.monitorExc, if_pos ⟨ss, valid⟩]
    · rw [State.monitorExc, if_neg fun h => other.elim (fun ne => ne h.1) h.2]
  · rw [legalRuns legal]
    exact finish_bind_fault (State.checkPages_fault faults)
  · rw [legalRuns legal, State.checkPages_pass ok, ok_bind]
    exact finish_bind_fault (by rw [tx, stopIf_true])
  · change finish _ = _
    rw [State.enterWait_ok.mpr ⟨r, rfl, ready, rfl⟩, ok_bind]
    exact finish_bind_fault (by rw [tx, stopIf_true])

/-! ### The monitor and a store -/

theorem mem_monitoredTypes {s : State} {pas : List Nat} {t : MemType} :
    t ∈ s.monitoredTypes pas ↔ ∃ pa ∈ pas, ∃ a ∈ s.aliases pa, s.monitor.covers a = true ∧
      ∃ acc, s.translate acc a = .ok pa t := by
  have types : ∀ a pa, t ∈ s.typesOf a pa ↔ ∃ acc, s.translate acc a = .ok pa t := by
    intro a pa
    simp only [State.typesOf, List.mem_filterMap]
    constructor
    · rintro ⟨acc, -, h⟩
      cases e : s.translate acc a with
      | fault c => simp [e] at h
      | ok p u =>
        simp only [e, Option.ite_none_right_eq_some, Option.some.injEq] at h
        obtain ⟨rfl, rfl⟩ := h
        exact ⟨acc, e⟩
    · rintro ⟨acc, h⟩
      exact ⟨acc, by cases acc <;> simp, by simp [h]⟩
  simp only [State.monitoredTypes, List.mem_flatMap, List.mem_filter, types, and_assoc]

/-- An address with a place is among those that the page rules may give it (R74). -/
theorem State.mem_aliases {s : State} {acc : Access} {a pa : Nat} {t : MemType} (ha : a < 2 ^ 64)
    (h : s.translate acc a = .ok pa t) : a ∈ s.aliases pa := by
  unfold State.translate at h
  split at h
  · rename_i r found
    split at h
    · rename_i base u result
      cases h
      have covered := List.find?_some found
      simp only [PageRule.covers, Bool.and_eq_true, decide_eq_true_eq] at covered
      obtain ⟨⟨⟨low, -⟩, -⟩, -⟩ := covered
      refine List.mem_cons_of_mem _ (List.mem_filterMap.mpr ⟨r, List.mem_of_find?_eq_some found, ?_⟩)
      simp only [result, Option.some.injEq, BitVec.toNat_sub, BitVec.toNat_ofNat]
      have := base.isLt
      omega
    · split at h
      · cases h; exact List.mem_cons_self
      · cases h
  · cases h; exact List.mem_cons_self

/-- Settles O60: the place of the monitored address is among those that the model asks about, so a
write-back type is found there; and without a place of a monitored address no type is. -/
theorem storeTriggersMonitor : Obligations.StoreTriggersMonitor := by
  intro s pas bs
  refine ⟨fun acc pa armed place stored => ?_, fun apart => ?_⟩
  · have covers : s.monitor.covers s.monitor.addr.toNat = true := by simp [Monitor.covers]
    have wb : MemType.wb ∈ s.monitoredTypes pas := mem_monitoredTypes.mpr
      ⟨pa, stored, _, State.mem_aliases s.monitor.addr.isLt place, covers, acc, place⟩
    have triggers : s.triggers pas = true := by simp [State.triggers, armed, wb]
    simp [State.landStore, triggers]
  · have none : s.monitoredTypes pas = [] := List.eq_nil_iff_forall_not_mem.mpr fun t ht => by
      obtain ⟨pa, stored, a, -, covers, acc, place⟩ := mem_monitoredTypes.mp ht
      exact apart a acc pa t covers place stored
    have quiet : s.triggers pas = false := by simp [State.triggers, none]
    simp [State.landStore, quiet]

end Sys2Proof.Machine
end

section
/-! PROOFS. Vector instructions complete: the three kinds of whole vector instructions once each, the elements
that each mnemonic computes, and from these the statements about GFNI, VAES, VPCLMULQDQ, VNNI, VPOPCNT and the
concatenated shifts. -/

namespace Sys2Proof.Machine

/-! ### The three kinds of whole vector instructions -/

/-- The low elements after the low 128 bits are replaced by packed bytes. -/
theorem elem_keepUpper_pack (old : Vec) (f : Nat → Byte) {j : Nat} (h : j < 16) :
    elem 8 (keepUpper old (pack 8 16 f)) j = f j := by
  have low : elem 8 (keepUpper old (pack 8 16 f)) j = elem 8 (pack 8 16 f) j := by
    refine BitVec.eq_of_getLsbD_eq fun k hk => ?_
    simp only [elem, BitVec.getLsbD_extractLsb', getLsbD_keepUpper, if_pos (show 8 * j + k < 128 by omega)]
  rw [low, elem_pack f h (by decide)]

theorem sseCompletes {i : Instr} {p : Pfx} {reg : BitVec 4} {rm : Rm} {f : Vec → Vec → Nat → Byte}
    (run : ∀ s, exec i s = sseOp i.form p [.gfni] reg rm 8 16 f s) : SseCompletes i p reg rm f := by
  intro s src ready source
  refine ⟨_, (run s).trans (sseOp_next.mpr ⟨ready, src, source, rfl⟩), fun j hj => ?_, fun n hn => ?_,
    State.writesVector_setZmm _ _ _ _⟩
  · rw [State.zmmAt_advance, State.zmmAt_setZmm_self, elem_keepUpper_pack _ _ hj]
  · rw [State.zmmAt_advance, State.zmmAt_setZmm_self, getLsbD_keepUpper, if_neg (Nat.not_lt.mpr hn)]

theorem vexCompletes {i : Instr} {r : VexRow} {l : Bool} {o : VexOps} {imm : Byte} {w : Nat}
    {f : Vec → Vec → Nat → BitVec w} (form : i.form = .vex r l o imm) (width : w ∣ 128)
    (run : ∀ s, exec i s = vexOp r l o w f s) : VexCompletes i r (vexLength l) o w f := by
  intro s src ready source
  have elems := vlElems_mul (vexLength l) width
  have room := vlBytes_le (vexLength l)
  rw [← Form.vex_len form] at source ⊢
  refine ⟨_, (run s).trans (vexOp_next.mpr ⟨ready, src, source, rfl⟩), fun j hj => ?_, fun n hn => ?_,
    State.writesVector_setZmm _ _ _ _⟩
  · rw [State.zmmAt_advance, State.zmmAt_setZmm_self, elem_pack _ hj (by omega)]
  · rw [State.zmmAt_advance, State.zmmAt_setZmm_self, getLsbD_pack_above _ (by omega)]

theorem evexCompletes {i : Instr} {r : EvexRow} {vl : VL} {o : EvexOps Rm} {imm : Byte} {w : Nat}
    {f : Vec → Vec → Vec → Nat → BitVec w} (form : i.form = .evex r vl o imm) (width : w ∣ 128)
    (run : ∀ s, exec i s = evexOp r vl o w f s) : EvexCompletes i r vl o w f := by
  intro s src ready source
  rw [← Form.evex_len form]
  refine ⟨_, (run s).trans (evexOp_next.mpr ⟨ready, src, source, rfl⟩), ?_,
    State.writesVector_setZmm _ _ _ _⟩
  rw [State.zmmAt_advance, State.zmmAt_setZmm_self]
  exact s.masked_result vl width _ _ _ _

/-! ### What each VEX mnemonic computes -/

/-- The width of a result element. -/
def VOp.width : VOp → Nat
  | .vgf2p8affineinvqb | .vgf2p8affineqb | .vgf2p8mulb => 8
  | .vaesdec | .vaesdeclast | .vaesenc | .vaesenclast | .vpclmulqdq => 128

/-- A result element, from the two sources. -/
def VOp.result (imm : Byte) : (v : VOp) → Vec → Vec → Nat → BitVec (VOp.width v)
  | .vgf2p8affineinvqb => affineInvElem imm
  | .vgf2p8affineqb => affineElem imm
  | .vgf2p8mulb => gfMulElem
  | .vaesdec => laneElem aesDec
  | .vaesdeclast => laneElem aesDecLast
  | .vaesenc => laneElem aesEnc
  | .vaesenclast => laneElem aesEncLast
  | .vpclmulqdq => clmulElem imm

theorem VOp.exec_make {v : VOp} {l : Bool} {o : VexOps} {imm : Byte} {i : Instr}
    (h : v.make l o imm = some i) (s : State) :
    exec i s = vexOp v.row l o (VOp.width v) (VOp.result imm v) s := by
  cases v <;> cases l <;> cases h <;> rfl

theorem VOp.completes (v : VOp) (l : Bool) (o : VexOps) (imm : Byte) {i : Instr}
    (h : v.make l o imm = some i) :
    VexCompletes i v.row (vexLength l) o (VOp.width v) (VOp.result imm v) :=
  vexCompletes (VOp.form_make h) (by cases v <;> decide) (VOp.exec_make h)

/-! ### What each EVEX mnemonic computes -/

/-- The width of a result element; VPSHUFBITQMB has bits of a mask for results. -/
def EOp.width : EOp → Nat
  | .vgf2p8affineinvqb | .vgf2p8affineqb | .vgf2p8mulb | .vpopcntb => 8
  | .vpopcntw | .vpshldw | .vpshldvw | .vpshrdw | .vpshrdvw => 16
  | .vpdpbusd | .vpdpbusds | .vpdpwssd | .vpdpwssds
  | .vpopcntd | .vpshldd | .vpshldvd | .vpshrdd | .vpshrdvd => 32
  | .vpopcntq | .vpshldq | .vpshldvq | .vpshrdq | .vpshrdvq => 64
  | .vaesdec | .vaesdeclast | .vaesenc | .vaesenclast | .vpclmulqdq => 128
  | .vpshufbitqmb => 1

/-- A result element, from the old destination and the two sources. -/
def EOp.result (imm : Byte) : (e : EOp) → Vec → Vec → Vec → Nat → BitVec (EOp.width e)
  | .vgf2p8affineinvqb => fun _ => affineInvElem imm
  | .vgf2p8affineqb => fun _ => affineElem imm
  | .vgf2p8mulb => fun _ => gfMulElem
  | .vaesdec => fun _ => laneElem aesDec
  | .vaesdeclast => fun _ => laneElem aesDecLast
  | .vaesenc => fun _ => laneElem aesEnc
  | .vaesenclast => fun _ => laneElem aesEncLast
  | .vpclmulqdq => fun _ => clmulElem imm
  | .vpdpbusd => dotElem busdSum wrap32
  | .vpdpbusds => dotElem busdSum sat32
  | .vpdpwssd => dotElem wssdSum wrap32
  | .vpdpwssds => dotElem wssdSum sat32
  | .vpopcntb => fun _ _ => popcntElem 8
  | .vpopcntw => fun _ _ => popcntElem 16
  | .vpopcntd => fun _ _ => popcntElem 32
  | .vpopcntq => fun _ _ => popcntElem 64
  | .vpshldw => fun _ => shldElem 16 imm
  | .vpshldd => fun _ => shldElem 32 imm
  | .vpshldq => fun _ => shldElem 64 imm
  | .vpshldvw => shldvElem 16
  | .vpshldvd => shldvElem 32
  | .vpshldvq => shldvElem 64
  | .vpshrdw => fun _ => shrdElem 16 imm
  | .vpshrdd => fun _ => shrdElem 32 imm
  | .vpshrdq => fun _ => shrdElem 64 imm
  | .vpshrdvw => shrdvElem 16
  | .vpshrdvd => shrdvElem 32
  | .vpshrdvq => shrdvElem 64
  | .vpshufbitqmb => fun _ x y j => BitVec.ofBool (shufbitBit x y j)

theorem EOp.exec_make {e : EOp} (h : e ≠ .vpshufbitqmb) (vl : VL) (o : EvexOps Rm) (imm : Byte)
    (s : State) : exec (e.make vl o imm) s = evexOp e.row vl o (EOp.width e) (EOp.result imm e) s := by
  cases e with
  | vpshufbitqmb => exact absurd rfl h
  | _ => cases vl <;> rfl

theorem exec_make_vpshufbitqmb (vl : VL) (o : EvexOps Rm) (imm : Byte) (s : State) :
    exec (EOp.vpshufbitqmb.make vl o imm) s = shufbit vl o s := by
  cases vl <;> rfl

theorem EOp.completes (e : EOp) (vl : VL) (o : EvexOps Rm) (imm : Byte)
    (h : e ≠ .vpshufbitqmb := by decide) :
    EvexCompletes (e.make vl o imm) e.row vl o (EOp.width e) (EOp.result imm e) :=
  evexCompletes (e.form_make vl o imm) (by cases e <;> decide) (EOp.exec_make h vl o imm)

/-! ### GFNI -/

/-- Settles O28. -/
theorem gfniSse : Obligations.GfniSse := fun _ _ _ _ =>
  ⟨sseCompletes fun _ => rfl, sseCompletes fun _ => rfl, sseCompletes fun _ => rfl⟩

/-- Settles O29. -/
theorem gfniVex : Obligations.GfniVex := fun o imm =>
  ⟨VOp.completes .vgf2p8affineinvqb false o imm rfl, VOp.completes .vgf2p8affineinvqb true o imm rfl,
    VOp.completes .vgf2p8affineqb false o imm rfl, VOp.completes .vgf2p8affineqb true o imm rfl,
    VOp.completes .vgf2p8mulb false o imm rfl, VOp.completes .vgf2p8mulb true o imm rfl⟩

/-- Settles O30. -/
theorem gfniEvex : Obligations.GfniEvex := fun vl o imm =>
  ⟨EOp.completes .vgf2p8affineinvqb vl o imm, EOp.completes .vgf2p8affineqb vl o imm,
    EOp.completes .vgf2p8mulb vl o imm⟩

/-! ### VAES and VPCLMULQDQ -/

/-- The quadwords that bits 0 and 4 of the immediate select (R235). -/
theorem clmulElem_eq (imm : Byte) (x y : Vec) (j : Nat) :
    clmulElem imm x y j = clmul (elem 64 x (if imm.getLsbD 0 then 2 * j + 1 else 2 * j))
      (elem 64 y (if imm.getLsbD 4 then 2 * j + 1 else 2 * j)) := by
  cases h0 : imm.getLsbD 0 <;> cases h4 : imm.getLsbD 4 <;> simp only [clmulElem, h0, h4] <;> rfl

/-- Settles O34. -/
theorem vaesClmulVex : Obligations.VaesClmulVex := by
  refine fun o imm => ⟨VOp.completes .vaesdec true o imm rfl, VOp.completes .vaesdeclast true o imm rfl,
    VOp.completes .vaesenc true o imm rfl, VOp.completes .vaesenclast true o imm rfl, ?_⟩
  rw [← funext₃ (clmulElem_eq imm)]
  exact VOp.completes .vpclmulqdq true o imm rfl

/-- Settles O35. -/
theorem vaesClmulEvex : Obligations.VaesClmulEvex := by
  refine fun vl o imm => ⟨EOp.completes .vaesdec vl o imm, EOp.completes .vaesdeclast vl o imm,
    EOp.completes .vaesenc vl o imm, EOp.completes .vaesenclast vl o imm, ?_⟩
  rw [← funext₃ (clmulElem_eq imm)]
  exact EOp.completes .vpclmulqdq vl o imm

/-! ### AVX512_VNNI -/

/-- An element of an element (R8). -/
theorem extractLsb'_elem {m n i : Nat} (hi : i < n) (v : Vec) (j : Nat) :
    (elem (m * n) v j).extractLsb' (m * i) m = elem m v (n * j + i) := by
  refine BitVec.eq_of_getLsbD_eq fun k hk => ?_
  have inside : m * i + k < m * n := calc
    m * i + k < m * i + m := by omega
    _ = m * (i + 1) := by ring
    _ ≤ m * n := Nat.mul_le_mul_left m hi
  simp only [elem, BitVec.getLsbD_extractLsb', hk, inside, decide_true, Bool.true_and]
  congr 1
  ring

theorem usProduct_elem (x y : Vec) (j : Nat) {i : Nat} (hi : i < 4) :
    usProduct (elem 32 x j) (elem 32 y j) i =
      ((elem 8 x (4 * j + i)).toNat : Int) * (elem 8 y (4 * j + i)).toInt := by
  rw [← extractLsb'_elem hi, ← extractLsb'_elem hi]; rfl

theorem ssProduct_elem (x y : Vec) (j : Nat) {i : Nat} (hi : i < 2) :
    ssProduct (elem 32 x j) (elem 32 y j) i =
      (elem 16 x (2 * j + i)).toInt * (elem 16 y (2 * j + i)).toInt := by
  rw [← extractLsb'_elem hi, ← extractLsb'_elem hi]; rfl

/-- Saturation is a clamp to the signed range (R272). -/
theorem sat32_eq (v : Int) : sat32 v = BitVec.ofInt 32 (max (-2147483648) (min 2147483647 v)) := by
  simp only [sat32]
  split
  · rw [show max (-2147483648) (min 2147483647 v) = 2147483647 by omega]; rfl
  split
  · rw [show max (-2147483648) (min 2147483647 v) = -2147483648 by omega]; rfl
  · rw [show max (-2147483648) (min 2147483647 v) = v by omega]

/-- Settles O40: the products are those of the elements of the elements, and saturation a clamp. -/
theorem dotProducts : Obligations.DotProducts := by
  intro vl o imm us ss busd wssd clamp
  have busd_eq (d x y : Vec) (j : Nat) : busdSum (elem 32 d j) (elem 32 x j) (elem 32 y j) = busd d x y j := by
    simp only [busdSum, usProduct_elem x y j (show 0 < 4 by decide),
      usProduct_elem x y j (show 1 < 4 by decide), usProduct_elem x y j (show 2 < 4 by decide),
      usProduct_elem x y j (show 3 < 4 by decide)]
    rfl
  have wssd_eq (d x y : Vec) (j : Nat) : wssdSum (elem 32 d j) (elem 32 x j) (elem 32 y j) = wssd d x y j := by
    simp only [wssdSum, ssProduct_elem x y j (show 0 < 2 by decide),
      ssProduct_elem x y j (show 1 < 2 by decide)]
    rfl
  have clamp_eq (v : Int) : sat32 v = clamp v := sat32_eq v
  simp only [← busd_eq, ← wssd_eq, ← clamp_eq]
  exact ⟨EOp.completes .vpdpbusd vl o imm, EOp.completes .vpdpbusds vl o imm,
    EOp.completes .vpdpwssd vl o imm, EOp.completes .vpdpwssds vl o imm⟩

/-! ### VPOPCNT and VPSHUFBITQMB -/

theorem countOnes_eq {w : Nat} (v : BitVec w) (n : Nat) :
    countOnes v n = ((List.range n).filter v.getLsbD).length := by
  induction n with
  | zero => rfl
  | succ n ih =>
    rw [countOnes, ih, List.range_succ, List.filter_append, List.length_append]
    cases h : v.getLsbD n <;> simp [h]

/-- Settles O41: counting bit by bit gives the number of bits that are 1. -/
theorem populationCounts : Obligations.PopulationCounts := by
  intro vl o imm ones
  have ones_eq (w : Nat) (d x : Vec) : popcntElem w = ones w d x :=
    funext₂ fun y j => by rw [popcntElem, countOnes_eq]
  have result (w : Nat) : ones w = fun _ _ => popcntElem w := funext₂ fun d x => (ones_eq w d x).symm
  simp only [result]
  exact ⟨EOp.completes .vpopcntb vl o imm, EOp.completes .vpopcntw vl o imm,
    EOp.completes .vpopcntd vl o imm, EOp.completes .vpopcntq vl o imm⟩

theorem getLsbD_packMask (f : Nat → Bool) (n i : Nat) :
    (packMask f n).getLsbD i = (decide (i < n) && decide (i < 64) && f i) := by
  induction n with
  | zero => simp [packMask]
  | succ n ih =>
    rw [packMask, BitVec.getLsbD_or, ih, BitVec.getLsbD_shiftLeft, BitVec.getLsbD_setWidth,
      BitVec.getLsbD_ofBool]
    by_cases wide : i < 64
    · rcases Nat.lt_trichotomy i n with h | rfl | h
      · simp [h, wide, Nat.lt_succ_of_lt h]
      · simp [wide]
      · simp [wide, show ¬ i < n by omega, show ¬ i < n + 1 by omega, show i - n ≠ 0 by omega]
    · simp [wide]

/-- Settles O42: the mask that is written, bit by bit. -/
theorem shuffleBits : Obligations.ShuffleBits := by
  intro vl o imm s ctrl ready source
  have len := Form.evex_len (EOp.form_make .vpshufbitqmb vl o imm)
  refine ⟨_, (exec_make_vpshufbitqmb vl o imm s).trans (shufbit_next.mpr ⟨ready, ctrl, source, rfl⟩),
    fun j hj => ?_, ⟨fun _ _ => rfl, fun _ _ => rfl, fun q hq => ?_, fun _ _ => rfl,
      ⟨rfl, rfl, rfl, rfl, rfl, rfl, rfl, rfl, rfl, rfl⟩⟩,
    ⟨⟨rfl, ⟨rfl, rfl⟩, ⟨rfl, rfl⟩, ⟨rfl, rfl⟩⟩, rfl⟩, by rw [← len]; rfl⟩
  · have low : low3 o.reg = o.reg.setWidth 3 := rfl
    have quad (b : Nat) (hb : b < 64) : (elem 64 (s.zmmAt o.vvvv) (j / 8)).getLsbD b =
        (s.zmmAt o.vvvv).getLsbD (64 * (j / 8) + b) := by
      simp [elem, hb]
    rw [State.kAt_advance, low, State.kAt_setK_self, getLsbD_packMask, decide_eq_true hj, Bool.and_true,
      shufbitBit, quad _ (Nat.mod_lt _ (by decide)), ← Bool.and_assoc]
    congr 3
    cases vl <;> rfl
  · exact State.kAt_setK_ne _ _ fun e => hq (List.mem_singleton.mpr e)

/-! ### VPSHLD and VPSHRD -/

theorem getLsbD_shld {w c i : Nat} (a b : BitVec w) (hc : c < w) (hi : i < w) :
    (shld w a b c).getLsbD i = if c ≤ i then a.getLsbD (i - c) else b.getLsbD (w + i - c) := by
  rw [shld, BitVec.getLsbD_extractLsb', BitVec.getLsbD_shiftLeft, BitVec.getLsbD_append]
  simp only [hi, show w + i < w + w by omega, show ¬ w + i < c by omega, decide_true, decide_false,
    Bool.true_and, Bool.not_false]
  by_cases h : c ≤ i
  · rw [if_neg (by omega), if_pos h, show w + i - c - w = i - c by omega]
  · rw [if_pos (by omega), if_neg h]

theorem getLsbD_shrd {w c i : Nat} (a b : BitVec w) (hi : i < w) :
    (shrd w a b c).getLsbD i = if i + c < w then b.getLsbD (i + c) else a.getLsbD (i + c - w) := by
  rw [shrd, BitVec.getLsbD_extractLsb', BitVec.getLsbD_ushiftRight, BitVec.getLsbD_append]
  simp only [hi, decide_true, Bool.true_and, Nat.zero_add, Nat.add_comm c i]

theorem shld_eq_or {w c : Nat} (a b : BitVec w) (hc : c < w) :
    shld w a b c = (a <<< c) ||| (b >>> (w - c)) := by
  refine BitVec.eq_of_getLsbD_eq fun i hi => ?_
  rw [getLsbD_shld a b hc hi, BitVec.getLsbD_or, BitVec.getLsbD_shiftLeft, BitVec.getLsbD_ushiftRight]
  by_cases h : c ≤ i
  · simp [h, hi, BitVec.getLsbD_of_ge b (w - c + i) (by omega)]
  · simp [h, show i < c by omega, show w - c + i = w + i - c by omega]

theorem shrd_eq_or {w c : Nat} (a b : BitVec w) (hc : c < w) :
    shrd w a b c = (b >>> c) ||| (a <<< (w - c)) := by
  refine BitVec.eq_of_getLsbD_eq fun i hi => ?_
  rw [getLsbD_shrd a b hi, BitVec.getLsbD_or, BitVec.getLsbD_shiftLeft, BitVec.getLsbD_ushiftRight,
    Nat.add_comm c i]
  by_cases h : i + c < w
  · simp [h, show i < w - c by omega]
  · simp [h, hi, BitVec.getLsbD_of_ge b (i + c) (by omega), show ¬ i < w - c by omega,
      show i - (w - c) = i + c - w by omega]

theorem shld_self {w c : Nat} (a : BitVec w) (hc : c < w) : shld w a a c = a.rotateLeft c := by
  rw [shld_eq_or a a hc, BitVec.rotateLeft_def, Nat.mod_eq_of_lt hc]

theorem shrd_self {w c : Nat} (a : BitVec w) (hc : c < w) : shrd w a a c = a.rotateRight c := by
  rw [shrd_eq_or a a hc, BitVec.rotateRight_def, Nat.mod_eq_of_lt hc]

/-- Settles O43. -/
theorem concatenatedShifts : Obligations.ConcatenatedShifts := fun _ _ _ a b hc hi =>
  ⟨getLsbD_shld a b hc hi, getLsbD_shrd a b hi, shld_eq_or a b hc, shrd_eq_or a b hc, shld_self a hc,
    shrd_self a hc⟩

/-- Settles O44. -/
theorem immediateShifts : Obligations.ImmediateShifts := fun vl o imm =>
  ⟨EOp.completes .vpshldw vl o imm, EOp.completes .vpshldd vl o imm, EOp.completes .vpshldq vl o imm,
    EOp.completes .vpshrdw vl o imm, EOp.completes .vpshrdd vl o imm, EOp.completes .vpshrdq vl o imm⟩

/-- Settles O45. -/
theorem variableShifts : Obligations.VariableShifts := fun vl o imm =>
  ⟨EOp.completes .vpshldvw vl o imm, EOp.completes .vpshldvd vl o imm, EOp.completes .vpshldvq vl o imm,
    EOp.completes .vpshrdvw vl o imm, EOp.completes .vpshrdvd vl o imm, EOp.completes .vpshrdvq vl o imm⟩

end Sys2Proof.Machine
end

section
/-! PROOFS. Memory and addresses: loads and stores byte by byte (R62, R74), effective addresses (R101 to R103)
and linear addresses (R66). -/

namespace Sys2Proof.Machine

/-! ### Loads and stores -/

/-- Byte `j` of a load is the byte found there (R62). -/
theorem State.elem_load (s : State) (la : Word) {n j : Nat} (hj : j < n) (room : j < 64) :
    elem 8 (s.load la n 512) j = s.readAt (s.byteAddr la j) := by
  refine BitVec.eq_of_getLsbD_eq fun k hk => ?_
  rw [elem, BitVec.getLsbD_extractLsb', State.getLsbD_load, show (8 * j + k) / 8 = j by omega,
    show (8 * j + k) % 8 = k by omega]
  simp [hk, hj, show 8 * j + k < 512 by omega]

/-- A stored operand under another name for its bytes. -/
theorem Stored.congr {s t : State} {la : Word} {n : Nat} {b c : Nat → Byte} (h : Stored s t la n b)
    (e : ∀ j, j < n → b j = c j) : Stored s t la n c :=
  fun j hj last => (h j hj last).trans (e j hj)

theorem State.stored_toBytes {s : State} (wf : Memory.wf s.mem) (la : Word) (n : Nat) {w : Nat}
    (v : BitVec w) : Stored s (s.store la (toBytes n v)) la n (fun i => v.extractLsb' (8 * i) 8) := by
  have h := State.stored_store wf la (toBytes n v)
  rw [toBytes_length] at h
  exact h.congr fun j hj => by
    rw [List.getElem?_eq_getElem (by simpa using hj), Option.getD_some, toBytes_getElem]

/-- Without page rules every address is its own place in write-back memory (log 15). -/
theorem State.translate_of_no_pages {s : State} (none : s.pages = []) (acc : Access) (a : Nat) :
    s.translate acc a = .ok a .wb := by
  simp [State.translate, none]

theorem State.place_of_no_pages {s : State} (none : s.pages = []) (acc : Access) (a : Nat) :
    s.place acc a = a := by
  simp [State.place, State.translate_of_no_pages none]

/-- Without page rules and racing stores, what is stored is found where it was stored. -/
theorem State.readAt_store {s : State} (wf : Memory.wf s.mem) (pages : s.pages = [])
    (racing : s.racing = []) (la : Word) {n i : Nat} (hi : i < n) (room : n ≤ 2 ^ 32) {w : Nat}
    (v : BitVec w) :
    (s.store la (toBytes n v)).readAt ((s.store la (toBytes n v)).byteAddr la i) =
      v.extractLsb' (8 * i) 8 := by
  have stored := s.stored_toBytes wf la n v i hi fun k lt hk same => by
    rw [State.place_of_no_pages pages, State.place_of_no_pages pages] at same
    exact absurd (s.byteAddr_inj la (by omega) (by omega) same) (by omega)
  rw [State.readAt_of_racing (by simpa using racing), State.place_of_no_pages (by simpa using pages)]
  rwa [State.place_of_no_pages pages] at stored

/-- Settles O18: the bits of a load (`getLsbD_load`), the places of a store (`stored_store`), and both
together. -/
theorem littleEndian : Obligations.LittleEndian := by
  intro s la n w v wf
  refine ⟨fun i k hi hk hw => ?_, s.readAt_cases, s.stored_toBytes wf la n v, fun a ha => ?_,
    fun pages racing room width => ?_, fun none acc a => State.translate_of_no_pages none acc a⟩
  · rw [State.getLsbD_load, show (8 * i + k) / 8 = i by omega, show (8 * i + k) % 8 = k by omega]
    simp [hw, hi]
  · exact s.byteAt_store_out wf la _ (by simpa using ha)
  · refine BitVec.eq_of_getLsbD_eq fun b hb => ?_
    have inside : b / 8 < n := by omega
    rw [State.getLsbD_load, State.readAt_store wf pages racing la inside room]
    simp [hb, inside, show b % 8 < 8 by omega, show 8 * (b / 8) + b % 8 = b by omega]

/-! ### Effective addresses -/

/-- How many bits of an effective address count at an address size (R61). -/
def ASize.bits : ASize → Nat
  | .a16 => 16
  | .a32 => 32
  | .a64 => 64

theorem truncA_eq_setWidth (a : ASize) (v : Word) : truncA a v = (v.setWidth (ASize.bits a)).setWidth 64 := by
  cases a
  · rfl
  · rfl
  · simp [truncA, ASize.bits]

theorem truncA_eq_ofNat (a : ASize) (v : Word) :
    truncA a v = BitVec.ofNat 64 (v.toNat % 2 ^ ASize.bits a) := by
  refine BitVec.eq_of_toNat_eq ?_
  simp [truncA_eq_setWidth]

theorem setWidth_truncA (a : ASize) (v : Word) :
    (truncA a v).setWidth (ASize.bits a) = v.setWidth (ASize.bits a) := by
  rw [truncA_eq_setWidth, BitVec.setWidth_setWidth_of_le _ (by cases a <;> decide), BitVec.setWidth_eq]

/-- Two sums are the same address where they agree in the bits that count. -/
theorem truncA_congr {a : ASize} {u v : Word} (h : u.setWidth (ASize.bits a) = v.setWidth (ASize.bits a)) :
    truncA a u = truncA a v := by
  rw [truncA_eq_setWidth, h, truncA_eq_setWidth]

theorem setWidth_bits_add (a : ASize) (u v : Word) :
    (u + v).setWidth (ASize.bits a) = u.setWidth (ASize.bits a) + v.setWidth (ASize.bits a) :=
  BitVec.setWidth_add _ _ (by cases a <;> decide)

theorem shiftLeft_eq_mul_ofNat (v : Word) (n : Nat) : v <<< n = v * BitVec.ofNat 64 (2 ^ n) := by
  rw [BitVec.shiftLeft_eq_mul_twoPow]
  congr 1
  exact BitVec.eq_of_toNat_eq (by rw [BitVec.toNat_twoPow, BitVec.toNat_ofNat])

/-- The index of a SIB byte in the bits that count: the register times 1, 2, 4 or 8 (R101). -/
theorem State.setWidth_index (s : State) (a : ASize) (sc : BitVec 2) (i : BitVec 4) :
    (s.index a sc i).setWidth (ASize.bits a) =
      (if i = 4 then 0 else s.gprAt i * BitVec.ofNat 64 (2 ^ sc.toNat)).setWidth (ASize.bits a) := by
  have fits : ASize.bits a ≤ 64 := by cases a <;> decide
  by_cases none : i = 4
  · rw [State.index, if_pos none, if_pos none]
  · rw [State.index, if_neg none, if_neg none, shiftLeft_eq_mul_ofNat, BitVec.setWidth_mul _ _ fits,
      BitVec.setWidth_mul _ _ fits, setWidth_truncA]

/-- An address of 32- or 64-bit addressing: its parts may be truncated first or last (R101). -/
theorem State.effAddr_base (s : State) (a : ASize) (next : Word) (n : Nat) (b : BitVec 4) (d : Disp) :
    s.effAddr a next n (.base b d) = truncA a (s.gprAt b + Disp.value n d) :=
  truncA_congr (by simp only [setWidth_bits_add, setWidth_truncA])

theorem State.effAddr_sib (s : State) (a : ASize) (next : Word) (n : Nat) (sc : BitVec 2)
    (i b : BitVec 4) (d : Disp) :
    s.effAddr a next n (.sib sc i b d) =
      truncA a (s.gprAt b + (if i = 4 then 0 else s.gprAt i * BitVec.ofNat 64 (2 ^ sc.toNat)) +
        Disp.value n d) :=
  truncA_congr (by simp only [setWidth_bits_add, setWidth_truncA, s.setWidth_index])

theorem State.effAddr_sibAbs (s : State) (a : ASize) (next : Word) (n : Nat) (sc : BitVec 2)
    (i : BitVec 4) (v : BitVec 32) :
    s.effAddr a next n (.sibAbs sc i v) =
      truncA a ((if i = 4 then 0 else s.gprAt i * BitVec.ofNat 64 (2 ^ sc.toNat)) + v.signExtend 64) :=
  truncA_congr (by simp only [setWidth_bits_add, s.setWidth_index])

theorem State.effAddr_rel (s : State) (a : ASize) (next : Word) (n : Nat) (v : BitVec 32) :
    s.effAddr a next n (.rel v) =
      truncA a (if s.mode = .bits64 then next + v.signExtend 64 else v.signExtend 64) := by
  by_cases h : s.mode = .bits64 <;> simp [State.effAddr, h]

/-- Settles O20, form by form. -/
theorem effectiveAddress : Obligations.EffectiveAddress := by
  intro s next n b i sc v u d8 d p len m low idx dv bx bp si di ea16
  have low_eq (a : ASize) (x : Word) : truncA a x = low (ASize.bits a) x := truncA_eq_ofNat a x
  have sixteen (rm : BitVec 3) : ea16 rm = low 16 (s.base16 rm + dv) := low_eq .a16 _
  refine ⟨⟨rfl, rfl, rfl, rfl⟩, fun a k size => ?_, ⟨sixteen 0, sixteen 1, sixteen 2, sixteen 3, sixteen 4,
    sixteen 5, sixteen 6, sixteen 7, ?_⟩, ⟨rfl, rfl, rfl, rfl, rfl, fun _ => rfl⟩, fun none => ?_,
    fun r some => ?_, rfl⟩
  · obtain rfl : k = ASize.bits a := by rcases size with ⟨rfl, rfl⟩ | ⟨rfl, rfl⟩ <;> rfl
    exact ⟨(s.effAddr_base a next n b d).trans (low_eq a _), (s.effAddr_sib a next n sc i b d).trans (low_eq a _),
      (s.effAddr_sibAbs a next n sc i v).trans (low_eq a _), (s.effAddr_rel a next n v).trans (low_eq a _)⟩
  · exact congrArg (BitVec.setWidth 64)
      ((BitVec.setWidth_setWidth_of_le u (by decide)).trans (BitVec.setWidth_eq u))
  · rw [State.segOf, none]
  · rw [State.segOf, some]

/-! ### Linear addresses -/

theorem State.checkSegment_eq (s : State) (g : SegReg) (ea : Word) (n : Nat) (acc : Access) :
    s.checkSegment g ea n acc = if s.segOk g ea n acc = true then .ok (s.linear g ea)
      else .error (.fault (.exception (s.segExc g) s.code0 none)) := rfl

/-- The exception of an illegal address outside real-address and virtual-8086 mode (R66). -/
theorem State.segExc_of_segmented {s : State} (real : s.mode ≠ .real) (v86 : s.mode ≠ .v86) (g : SegReg) :
    s.segExc g = if g = .ss then .ss else .gp := by
  simp [State.segExc, real, v86]

theorem State.code0_of_ne_real {s : State} (h : s.mode ≠ .real) : s.code0 = some 0 := if_neg h

theorem State.linear_bits64 {s : State} (h : s.mode = .bits64) (g : SegReg) (ea : Word) :
    s.linear g ea = if g = .fs then s.segs.fs.base + ea else if g = .gs then s.segs.gs.base + ea else ea := by
  simp only [State.linear, h]
  cases g <;> rfl

theorem State.linear_prot_or_compat {s : State} (h : s.mode = .prot ∨ s.mode = .compat) (g : SegReg)
    (ea : Word) : s.linear g ea = BitVec.ofNat 64 (((s.seg g).base + ea).toNat % 2 ^ 32) := by
  refine Eq.trans (b := truncA .a32 ((s.seg g).base + ea)) ?_ (truncA_eq_ofNat .a32 _)
  rcases h with h | h <;> simp only [State.linear, h] <;> rfl

theorem State.linear_real_or_v86 {s : State} (h : s.mode = .real ∨ s.mode = .v86) (g : SegReg) (ea : Word) :
    s.linear g ea = ((s.seg g).sel.setWidth 64 <<< 4) + ea := by
  rcases h with h | h <;> simp only [State.linear, h]

theorem State.segOk_bits64 {s : State} (h : s.mode = .bits64) (g : SegReg) (ea : Word) (n : Nat)
    (acc : Access) : s.segOk g ea n acc = true ↔ canonical s.cfg.laBits (s.linear g ea) = true ∧
      canonical s.cfg.laBits (s.linear g ea + BitVec.ofNat 64 (n - 1)) = true := by
  simp only [State.segOk, h, Bool.and_eq_true]

theorem State.segOk_prot_or_compat {s : State} (h : s.mode = .prot ∨ s.mode = .compat) (g : SegReg)
    (ea : Word) (n : Nat) (acc : Access) : s.segOk g ea n acc = true ↔
      (s.seg g).null = false ∧ (s.seg g).lo.toNat ≤ ea.toNat ∧ ea.toNat + (n - 1) ≤ (s.seg g).hi.toNat ∧
        (acc = .read → (s.seg g).readable = true) ∧ (acc = .write → (s.seg g).writable = true) := by
  rcases h with h | h <;> cases acc <;> simp [State.segOk, h, and_assoc]

theorem State.segOk_real_or_v86 {s : State} (h : s.mode = .real ∨ s.mode = .v86) (g : SegReg)
    (ea : Word) (n : Nat) (acc : Access) : s.segOk g ea n acc = true ↔ ea.toNat + (n - 1) ≤ 0xFFFF := by
  rcases h with h | h <;> simp [State.segOk, h]

/-- Settles O19, mode by mode. -/
theorem segmentedAddress : Obligations.SegmentedAddress := by
  intro s g ea n acc pos bad
  have illegal (real : s.mode ≠ .real) (v86 : s.mode ≠ .v86) :
      Stop.fault (.exception (s.segExc g) s.code0 none) = bad := by
    rw [State.segExc_of_segmented real v86, State.code0_of_ne_real real]
  refine ⟨fun h => ?_, fun h => ?_, fun h => ?_⟩
  · intro la
    rw [s.checkSegment_eq, illegal (by simp [h]) (by simp [h])]
    simp only [State.segOk_bits64 h, State.linear_bits64 h]
    rfl
  · rw [s.checkSegment_eq, illegal (by rcases h with h | h <;> simp [h]) (by rcases h with h | h <;> simp [h]),
      State.linear_prot_or_compat h]
    simp only [State.segOk_prot_or_compat h]
  · have gp : s.segExc g = .gp := by rcases h with h | h <;> simp [State.segExc, h]
    rw [s.checkSegment_eq, gp, State.linear_real_or_v86 h]
    simp only [State.segOk_real_or_v86 h, show ea.toNat + (n - 1) ≤ 0xFFFF ↔ ea.toNat + n ≤ 0x10000 by omega]
    rfl

end Sys2Proof.Machine
end

section
/-! PROOFS. VPCOMPRESS and VPEXPAND (46_vpcompress_vpexpand.md) complete, to and from registers and memory. -/

namespace Sys2Proof.Machine

/-! ### Active elements and their rank -/

section
variable (s : State) {w n j : Nat} (aaa : BitVec 3)

theorem State.compressed_getElem? (src : Vec) (hj : j < n) (active : s.active aaa j = true) :
    (s.compressed w n aaa src)[s.rank aaa j]? = some (elem w src j) := by
  rw [State.compressed, List.getElem?_map, State.rank, State.actives, State.actives,
    filter_range_getElem? hj active, Option.map_some]

theorem State.rank_lt (hj : j < n) (active : s.active aaa j = true) : s.rank aaa j < s.rank aaa n :=
  filter_range_lt hj active

theorem State.rank_le (n : Nat) : s.rank aaa n ≤ n := filter_range_le _ n

@[simp] theorem State.compressed_length (src : Vec) : (s.compressed w n aaa src).length = s.rank aaa n := by
  rw [State.compressed, List.length_map, State.rank]

/-- Result element of VPCOMPRESS: an active element stands at its rank (R252). -/
theorem State.compressElem_rank (z : Bool) (old src : Vec) (hj : j < n) (active : s.active aaa j = true) :
    s.compressElem w n aaa z old src (s.rank aaa j) = elem w src j := by
  simp only [State.compressElem, s.compressed_getElem? aaa src hj active]

/-- From the count of active elements up, the result is 0 or the old element (R252, R253). -/
theorem State.compressElem_above (z : Bool) (old src : Vec) (h : s.rank aaa n ≤ j) :
    s.compressElem w n aaa z old src j = if z then 0 else elem w old j := by
  have none : (s.compressed w n aaa src)[j]? = none :=
    List.getElem?_eq_none (by rwa [s.compressed_length])
  simp only [State.compressElem, none]

end

/-! ### What each mnemonic is -/

theorem POp.memWidth_dvd (e : POp) : 8 * e.memRow.elem ∣ 128 := by cases e <;> decide

theorem POp.regWidth_dvd (e : POp) : 8 * e.regRow.elem ∣ 128 := by cases e <;> decide

theorem exec_makeReg_compress {e : POp} (h : e = .vpcompressb ∨ e = .vpcompressw) (vl : VL)
    (o : EvexOps (BitVec 5)) (s : State) : exec (e.makeReg vl o) s = compressReg e.regRow vl o s := by
  rcases h with rfl | rfl <;> cases vl <;> rfl

theorem exec_makeReg_expand {e : POp} (h : e = .vpexpandb ∨ e = .vpexpandw) (vl : VL)
    (o : EvexOps (BitVec 5)) (s : State) : exec (e.makeReg vl o) s = expandReg e.regRow vl o s := by
  rcases h with rfl | rfl <;> cases vl <;> rfl

theorem exec_makeMem_compress {e : POp} (h : e = .vpcompressb ∨ e = .vpcompressw) (vl : VL)
    (o : EvexOps Mem) (s : State) : exec (e.makeMem vl o) s = compressStore e.memRow vl o s := by
  rcases h with rfl | rfl <;> cases vl <;> rfl

theorem exec_makeMem_expand {e : POp} (h : e = .vpexpandb ∨ e = .vpexpandw) (vl : VL)
    (o : EvexOps Mem) (s : State) : exec (e.makeMem vl o) s = expandLoad e.memRow vl o s := by
  rcases h with rfl | rfl <;> cases vl <;> rfl

/-! ### Registers -/

/-- Settles O36: an active element stands at its rank in the packed list. -/
theorem compressToRegister : Obligations.CompressToRegister := by
  intro e vl o s name ready w rank
  have dvd : w ∣ 128 := POp.regWidth_dvd e
  have size := vlElems_mul vl dvd
  have room : w * vlElems vl w ≤ 512 := size ▸ vlBytes_le vl
  rw [← Form.evex_len (e.form_makeReg vl o)]
  refine ⟨_, (exec_makeReg_compress name vl o s).trans (compressReg_next.mpr ⟨ready, rfl⟩),
    fun j hj active => ?_, fun j above hj => ?_, fun n hn => ?_, State.writesVector_setZmm _ _ _ _⟩
  all_goals rw [State.zmmAt_advance, State.zmmAt_setZmm_self]
  · have below : s.rank o.aaa j < vlElems vl w := (s.rank_lt o.aaa hj active).trans_le (s.rank_le _ _)
    exact (elem_pack _ below room).trans (s.compressElem_rank _ _ _ _ hj active)
  · exact (elem_pack _ hj room).trans (s.compressElem_above _ _ _ _ above)
  · exact getLsbD_pack_above _ (size ▸ hn)

/-- Settles O37: `expanded` is the masked result whose active elements are those of their rank. -/
theorem expandFromRegister : Obligations.ExpandFromRegister := by
  intro e vl o s name ready w rank
  have dvd : w ∣ 128 := POp.regWidth_dvd e
  rw [← Form.evex_len (e.form_makeReg vl o)]
  refine ⟨_, (exec_makeReg_expand name vl o s).trans (expandReg_next.mpr ⟨ready, rfl⟩), ?_,
    State.writesVector_setZmm _ _ _ _⟩
  rw [State.zmmAt_advance, State.zmmAt_setZmm_self]
  exact s.masked_result vl dvd _ _ _ _

/-! ### Memory -/

theorem State.denseBytes_length (s : State) (r : EvexRow) (vl : VL) (o : EvexOps Mem) :
    (s.denseBytes r vl o).length = s.touched r vl o.aaa := by
  rw [State.denseBytes, flatMap_toBytes_length, State.compressed_length]; rfl

/-- Byte `b` of active element `j` is stored at the rank of the element (R252 to R254). -/
theorem State.denseBytes_rank (s : State) {r : EvexRow} {vl : VL} {o : EvexOps Mem} {j b : Nat}
    (hj : j < vlElems vl (8 * r.elem)) (active : s.active o.aaa j = true) (hb : b < r.elem) :
    (s.denseBytes r vl o)[s.rank o.aaa j * r.elem + b]? =
      some (elem 8 (s.zmmAt o.reg) (j * r.elem + b)) := by
  have place := s.compressed_getElem? (w := 8 * r.elem) o.aaa (s.zmmAt o.reg) hj active
  obtain ⟨inside, found⟩ := List.getElem?_eq_some_iff.mp place
  have bound : s.rank o.aaa j * r.elem + b < (s.denseBytes r vl o).length := by
    rw [s.denseBytes_length]
    calc s.rank o.aaa j * r.elem + b < (s.rank o.aaa j + 1) * r.elem := by rw [Nat.add_mul]; omega
      _ ≤ s.touched r vl o.aaa := Nat.mul_le_mul_right _ (s.rank_lt o.aaa hj active)
  rw [List.getElem?_eq_getElem bound, elem_byte r.elem _ j b hb]
  exact congrArg some ((flatMap_toBytes_getElem _ _ b inside hb bound).trans (by rw [found]))

/-- Settles O38: nothing where no element is active, else one store of the packed bytes. -/
theorem compressToMemory : Obligations.CompressToMemory := by
  intro e vl o s name ready wf sz rank bytes ea la passes
  have count : (s.denseBytes e.memRow vl o).length = bytes := s.denseBytes_length _ _ _
  let bs : Nat → Byte := fun k => (s.denseBytes e.memRow vl o)[k]?.getD 0
  have packed : ∀ j b, j < vlElems vl (8 * sz) → s.active o.aaa j = true → b < sz →
      bs (rank j * sz + b) = elem 8 (s.zmmAt o.reg) (j * sz + b) :=
    fun j b hj active hb => congrArg (Option.getD · 0) (s.denseBytes_rank hj active hb)
  have run := (exec_makeMem_compress name vl o s).trans
    (compressStore_next.mpr ⟨ready, State.denseCheck_ok.mpr passes, rfl⟩)
  rw [Form.evex_len (e.form_makeMem vl o)] at run
  by_cases none : bytes = 0
  · have empty : (s.denseBytes e.memRow vl o).isEmpty = true :=
      List.isEmpty_iff.mpr (List.eq_nil_of_length_eq_zero (count.trans none))
    rw [empty, if_pos rfl] at run
    refine ⟨_, run, ⟨bs, fun j hj => absurd hj (by omega), packed⟩,
      ⟨fun _ _ => rfl, fun _ _ => rfl, fun _ _ => rfl, fun _ _ => rfl,
        ⟨rfl, rfl, rfl, rfl, rfl, rfl, rfl, rfl, rfl, rfl⟩⟩,
      ⟨rfl, ⟨rfl, rfl⟩, ⟨rfl, rfl⟩, .inl rfl, fun a => ?_⟩,
      fun _ => ⟨⟨rfl, ⟨rfl, rfl⟩, ⟨rfl, rfl⟩, ⟨rfl, rfl⟩⟩, rfl⟩, rfl⟩
    simp [none, State.places, State.span]
  · have some : (s.denseBytes e.memRow vl o).isEmpty = false := by
      rw [List.isEmpty_eq_false_iff, ← List.length_pos_iff]; omega
    rw [some, if_neg Bool.false_ne_true] at run
    refine ⟨_, run, ⟨bs, ?_, packed⟩, ?_, ?_, fun h => absurd h none, rfl⟩
    · rw [← count]; exact State.stored_store wf _ _
    · rw [← count]; exact s.frame_store _ _ _ wf
    · rw [← count]; exact s.storeRest_store _ _ _

/-- Settles O39: the bytes loaded are packed, and each active element takes those of its rank. -/
theorem expandFromMemory : Obligations.ExpandFromMemory := by
  intro e vl o s name ready sz rank bytes ea la passes
  have size := vlElems_mul vl (POp.memWidth_dvd e)
  have fits := vlBytes_le vl
  rw [← Form.evex_len (e.form_makeMem vl o)]
  refine ⟨_, (exec_makeMem_expand name vl o s).trans
      (expandLoad_next.mpr ⟨ready, State.denseCheck_ok.mpr passes, rfl⟩), ?_⟩
  rw [State.zmmAt_advance, State.zmmAt_setZmm_self]
  have result := s.masked_result vl (POp.memWidth_dvd e) o.aaa o.z (s.zmmAt o.reg) fun j =>
    elem (8 * sz) (s.load la bytes 512) (s.rank o.aaa j)
  refine ⟨fun j b hj active hb => ?_, fun j hj inactive => ?_, result.upper,
    State.writesVector_setZmm _ _ _ _⟩
  · have below := s.rank_lt o.aaa hj active
    have inside : rank j * sz + b < bytes := calc
      rank j * sz + b < (rank j + 1) * sz := by rw [Nat.add_mul]; omega
      _ ≤ bytes := Nat.mul_le_mul_right _ below
    have top : bytes ≤ 64 := by
      have : bytes ≤ vlElems vl (8 * sz) * sz := Nat.mul_le_mul_right _ (s.rank_le _ _)
      have : 8 * (vlElems vl (8 * sz) * sz) = 8 * vlBytes vl := by rw [← size]; ring
      omega
    rw [elem_byte sz _ j b hb]
    calc _ = (elem (8 * sz) (s.load la bytes 512) (rank j)).extractLsb' (8 * b) 8 :=
          congrArg (BitVec.extractLsb' (8 * b) 8) (result.active j hj active)
      _ = elem 8 (s.load la bytes 512) (rank j * sz + b) := (elem_byte sz _ _ b hb).symm
      _ = s.readAt (s.byteAddr la (rank j * sz + b)) := s.elem_load la inside (by omega)
  · split
    · exact result.zeroed j hj inactive ‹_›
    · exact result.merged j hj inactive (Bool.eq_false_iff.mpr ‹_›)

end Sys2Proof.Machine
end

section
/-! PROOFS. MOVDIRI and MOVDIR64B (42_direct_store.md), CLDEMOTE and WBNOINVD (40_cache_control.md): where they
complete and where they stop. -/

namespace Sys2Proof.Machine

/-! ### Direct stores complete -/

/-- Past its checks MOVDIRI is one store of the bytes of its register. -/
theorem movdiri_completes : Obligations.Movdiri := by
  intro p m reg s n i la name ready no66 wf seg addr aligned pages
  have runs (t : State) : exec i s = .next t ↔ movdiri n p m reg i.len s = .next t := by
    rcases name with ⟨rfl, rfl⟩ | ⟨rfl, rfl⟩ <;> exact Iff.rfl
  have noAc : (s.alignChecked && decide (la.toNat % n ≠ 0)) = false := by
    cases checked : s.alignChecked
    · rfl
    · simp [aligned checked]
  have stored := s.stored_toBytes wf la n (s.gprAt reg)
  have frame := s.frame_store la (toBytes n (s.gprAt reg)) i.len wf
  have rest := s.storeRest_store la (toBytes n (s.gprAt reg)) i.len
  rw [toBytes_length] at frame rest
  exact ⟨_, (runs _).mpr (movdiri_next.mpr ⟨ready, no66, la, State.checkSegment_ok.mpr ⟨seg, addr⟩, noAc,
    pages, rfl⟩), stored, frame, rest, rfl⟩

/-- Bytes found at one place and stored at another are as they were found (R173). -/
theorem State.stored_copy {s : State} (wf : Memory.wf s.mem) (dla sla : Word) (n len : Nat) :
    Stored s ((s.store dla ((s.span sla n).map s.readAt)).advance len) dla n
      (fun j => s.readAt (s.byteAddr sla j)) := by
  have h := State.stored_store wf dla ((s.span sla n).map s.readAt)
  rw [List.length_map, State.span_length] at h
  exact h.congr fun j hj => by simp [State.span, hj]

/-- A store of `n` bytes leaves what a store does. -/
theorem State.frame_copy {s : State} (wf : Memory.wf s.mem) (dla sla : Word) (n len : Nat) :
    Frame [] [] [] (s.places .write dla n) s ((s.store dla ((s.span sla n).map s.readAt)).advance len) ∧
      StoreRest (s.places .write dla n) s ((s.store dla ((s.span sla n).map s.readAt)).advance len) := by
  have frame := s.frame_store dla ((s.span sla n).map s.readAt) len wf
  have rest := s.storeRest_store dla ((s.span sla n).map s.readAt) len
  rw [List.length_map, State.span_length] at frame rest
  exact ⟨frame, rest⟩

/-- Settles O47: the 64 bytes are read from the state before the store. -/
theorem movdir64b : Obligations.Movdir64b := by
  rintro p reg m s _ sla dla rfl ready wf srcSeg srcAddr dstSeg dstAddr aligned srcPages dstPages
  obtain ⟨frame, rest⟩ := State.frame_copy wf dla sla 64 (Instr.movdir64b p reg m).len
  exact ⟨_, execMovdir64b_next.mpr ⟨ready, sla, State.checkSegment_ok.mpr ⟨srcSeg, srcAddr⟩, dla,
    State.checkSegment_ok.mpr ⟨dstSeg, dstAddr⟩, aligned, srcPages, dstPages, rfl⟩,
    State.stored_copy wf dla sla 64 _, frame, rest, State.advance_rip _ _⟩

/-! ### Direct stores stop -/

theorem finish_bind_refuse {α : Type} {x : Except Stop α} {f : α → Except Stop State} {r : Refusal}
    (h : x = .error (.refuse r)) : finish (x >>= f) = .refused r := by
  rw [h]; rfl

theorem State.enterDirect_ud {s : State} {p : Pfx} {f : Feature} {no66 : Bool}
    (h : (no66 && p.has .osize) = true ∨ s.hasAll [f] = false) : s.enterDirect p f no66 = .error s.ud := by
  simp only [State.enterDirect]
  cases p.has .lock
  · rcases h with h | h
    · simp [h]
    · cases no66 && p.has .osize <;> simp [h]
  · simp

theorem State.enterDirect_tx {s : State} {p : Pfx} {f : Feature} {no66 : Bool}
    (lock : p.has .lock = false) (no : (no66 && p.has .osize) = false) (feature : s.hasAll [f] = true)
    (tx : s.inTx = true) : s.enterDirect p f no66 = .error (.refuse .txSilent) := by
  simp [State.enterDirect, lock, no, feature, tx]

theorem State.enterDirect_pass {s : State} {p : Pfx} {f : Feature} {no66 : Bool}
    (ready : s.DirectReady p f) (no : no66 = true → p.has .osize = false) :
    s.enterDirect p f no66 = .ok () :=
  State.enterDirect_ok.mpr ⟨ready, no⟩

/-- An illegal address is the exception of its segment (R66). -/
theorem State.checkSegment_fault {s : State} {r : SegReg} {ea : Word} {n : Nat} {acc : Access}
    (h : s.segOk r ea n acc = false) :
    s.checkSegment r ea n acc = .error (.fault (.exception (s.segExc r) s.code0 none)) :=
  State.checkSegment_fail h

/-- The exception of an illegal address in ES is #GP (R66). -/
theorem State.segExc_es (s : State) : s.segExc .es = .gp := by simp [State.segExc]

theorem movdiri_run {s : State} {n : Nat} {p : Pfx} {m : Mem} {reg : BitVec 4} {len : Nat}
    (ready : s.DirectReady p .movdiri) (no66 : p.has .osize = false) :
    movdiri n p m reg len s = finish (do
      let la ← s.checkSegment (s.segOf p m) (s.operandAddr p len 1 m) n .write
      stopIf (s.alignChecked && la.toNat % n ≠ 0) s.ac
      s.checkPages .write (s.span la n)
      .ok ((s.store la (toBytes n (s.gprAt reg))).advance len)) := by
  rw [movdiri, State.enterDirect_pass ready fun _ => no66, ok_bind]

/-- MOVDIRI at an address that is legal and not unaligned where that is checked (R170, R312). -/
theorem movdiri_fault {s : State} {n : Nat} {p : Pfx} {m : Mem} {reg : BitVec 4} {len : Nat} {f : Fault}
    (ready : s.DirectReady p .movdiri) (no66 : p.has .osize = false)
    (aligned : s.segOk (s.segOf p m) (s.operandAddr p len 1 m) n .write = true → s.alignChecked = true →
      (s.linear (s.segOf p m) (s.operandAddr p len 1 m)).toNat % n = 0)
    (faults : s.PieceFaults (s.segOf p m) (s.operandAddr p len 1 m) n .write f) :
    movdiri n p m reg len s = .fault f := by
  rw [movdiri_run ready no66]
  rcases faults with ⟨illegal, rfl⟩ | ⟨legal, a, c, page, rfl⟩
  · exact finish_bind_fault (State.checkSegment_fault illegal)
  · have noAc : (s.alignChecked && decide
        ((s.linear (s.segOf p m) (s.operandAddr p len 1 m)).toNat % n ≠ 0)) = false := by
      cases checked : s.alignChecked
      · rfl
      · simp [aligned legal checked]
    rw [State.checkSegment_pass legal, ok_bind, stopIf_pass noAc]
    exact finish_bind_fault (State.checkPages_fault page)

/-- An address size keeps the six low bits, which say whether an offset is a multiple of 64. -/
theorem truncA_toNat_mod_64 (a : ASize) (v : Word) : (truncA a v).toNat % 64 = v.toNat % 64 := by
  rw [truncA_eq_ofNat, BitVec.toNat_ofNat]
  have := v.isLt
  cases a <;> simp only [ASize.bits] <;> omega

theorem movdir64b_run {s : State} {p : Pfx} {m : Mem} {reg : BitVec 4} (ready : s.DirectReady p .movdir64b)
    (src : s.segOk (s.segOf p m) (s.operandAddr p (Instr.movdir64b p reg m).len 1 m) 64 .read = true) :
    exec (.movdir64b p reg m) s = finish (do
      let sla := s.linear (s.segOf p m) (s.operandAddr p (Instr.movdir64b p reg m).len 1 m)
      let dla ← s.checkSegment .es (truncA (s.asize p) (s.gprAt reg)) 64 .write
      stopIf ((truncA (s.asize p) (s.gprAt reg)).toNat % 64 ≠ 0) s.gp
      s.checkPages .read (s.span sla 64)
      s.checkPages .write (s.span dla 64)
      .ok ((s.store dla ((s.span sla 64).map s.readAt)).advance (Instr.movdir64b p reg m).len)) := by
  change finish (_ >>= _) = _
  rw [State.enterDirect_pass (no66 := false) ready nofun, ok_bind, State.checkSegment_pass src, ok_bind]

/-- Settles O48, check by check in the order of R170 and R173. -/
theorem directStoreStops : Obligations.DirectStoreStops := by
  intro p m reg s i g ea dea stops ud gp
  refine ⟨fun n name => ?_, ?_⟩
  · have runs : exec i s = movdiri n p m reg i.len s := by
      rcases name with ⟨rfl, rfl⟩ | ⟨rfl, rfl⟩ <;> rfl
    simp only [stops, runs]
    refine ⟨fun undefined => ?_, fun lock no66 feature tx => ?_, fun ready no66 =>
      ⟨fun legal am ac user unaligned page => ?_, fun f aligned faults => ?_⟩⟩
    · exact finish_bind_ud (State.enterDirect_ud undefined)
    · exact finish_bind_refuse (State.enterDirect_tx lock (by simp [no66]) feature tx)
    · have checked : s.alignChecked = true := by simp [State.alignChecked, am, ac, user]
      have real : s.mode ≠ .real := fun real => by simp [State.cpl, real] at user
      rw [movdiri_run ready no66, State.checkSegment_pass legal, ok_bind,
        stopIf_bind_error (by simp [checked, unaligned, g, ea]), finish_fault, s.ac_eq,
        State.code0_of_ne_real real]
    · exact movdiri_fault ready no66 aligned faults
  · rintro rfl
    refine ⟨fun feature => ?_, fun lock feature tx => ?_, fun ready =>
      ⟨fun illegal => ?_, fun src illegal => ?_, fun src dst => ?_⟩⟩
    · exact finish_bind_ud (State.enterDirect_ud (.inr feature))
    · exact finish_bind_refuse (State.enterDirect_tx lock rfl feature tx)
    · change finish (_ >>= _) = _
      rw [State.enterDirect_pass (no66 := false) ready nofun, ok_bind]
      exact finish_bind_fault (State.checkSegment_fault illegal)
    · refine (movdir64b_run ready src).trans (finish_bind_fault ?_)
      rw [State.checkSegment_fault illegal, s.segExc_es]
    · have runs := movdir64b_run ready src
      rw [State.checkSegment_pass dst, ok_bind] at runs
      refine ⟨fun unaligned => ?_, fun aligned => ⟨fun f faults => ?_, fun f passes faults => ?_⟩⟩
      · rw [← truncA_toNat_mod_64 (s.asize p)] at unaligned
        exact runs.trans (by rw [stopIf_bind_error (by simpa using unaligned)]; rfl)
      all_goals
        rw [← truncA_toNat_mod_64 (s.asize p)] at aligned
        rw [stopIf_pass (by simpa using aligned)] at runs
        refine runs.trans ?_
      · rcases faults with ⟨illegal, -⟩ | ⟨-, a, c, page, rfl⟩
        · cases src.symm.trans illegal
        · exact finish_bind_fault (State.checkPages_fault page)
      · rcases faults with ⟨illegal, -⟩ | ⟨-, a, c, page, rfl⟩
        · cases dst.symm.trans illegal
        · rw [State.checkPages_pass passes.2, ok_bind]
          exact finish_bind_fault (State.checkPages_fault page)

/-! ### CLDEMOTE and WBNOINVD -/

/-- A completion that changes only RIP, the count of free values and the record of stored bytes. -/
theorem State.frame_advance (s : State) (d : Nat) (ws : List Nat) (n : Nat) :
    Frame [] [] [] [] s (State.advance { s with draws := d, written := ws } n) :=
  ⟨fun _ _ => rfl, fun _ _ => rfl, fun _ _ => rfl, fun _ _ => rfl,
    ⟨rfl, rfl, rfl, rfl, rfl, rfl, rfl, rfl, rfl, rfl⟩⟩

theorem State.still_advance (s : State) (d n : Nat) :
    Still s (State.advance { s with draws := d } n) :=
  ⟨rfl, ⟨rfl, rfl⟩, ⟨rfl, rfl⟩, ⟨rfl, rfl⟩⟩

theorem State.demoteMayAbort_iff {s : State} : s.demoteMayAbort = true ↔
    s.hasAll [.cldemote] = true ∧ s.inTx = true ∧ s.cfg.cldemoteAbortsTsx = true := by
  simp [State.demoteMayAbort, and_assoc]

/-- Settles O49: CLDEMOTE moves RIP and nothing else, unless it aborts the transaction it is in. -/
theorem cldemote : Obligations.Cldemote := by
  intro p m s lock len
  refine ⟨fun calm => ?_, fun feature tx may => ⟨fun aborts => ?_, fun stays => ?_⟩⟩
  · have never : s.demoteMayAbort = false := by
      rw [Bool.eq_false_iff, ne_eq, State.demoteMayAbort_iff]
      rintro ⟨feature, tx, may⟩
      rcases calm with h | h | h
      · cases h.symm.trans feature
      · cases h.symm.trans tx
      · cases h.symm.trans may
    exact ⟨_, execCldemote_next.mpr ⟨lock, .inl ⟨never, rfl⟩⟩, s.frame_advance _ _ _,
      ⟨s.still_advance _ _, rfl⟩, rfl⟩
  · have may := State.demoteMayAbort_iff.mpr ⟨feature, tx, may⟩
    change execCldemote p m s = _
    simp [execCldemote, lock, may, aborts]
  · have may := State.demoteMayAbort_iff.mpr ⟨feature, tx, may⟩
    exact ⟨_, execCldemote_next.mpr ⟨lock, .inr ⟨may, stays, rfl⟩⟩, s.frame_advance _ _ _,
      s.still_advance _ _, rfl⟩

/-- Settles O50: the checks of WBNOINVD in their order, and its completion. -/
theorem wbnoinvd : Obligations.Wbnoinvd := by
  intro p s lock
  refine ⟨fun absent => ?_, fun feature user => ?_, fun feature ring0 =>
    ⟨fun guest => ?_, fun host tx => ?_, fun host noTx => ?_⟩⟩
  · change execWbnoinvd p s = _
    rw [execWbnoinvd, stopIf_pass lock]
    exact finish_bind_refuse (by simp [absent])
  · have barred : (decide (s.mode = .v86) || decide (s.cpl ≠ 0)) = true := by
      rcases user with h | h
      · rw [decide_eq_true h, Bool.or_true]
      · rw [decide_eq_true h, Bool.true_or]
    have real : s.mode ≠ .real := fun real => by
      rcases user with h | h
      · exact h (by simp [State.cpl, real])
      · cases real.symm.trans h
    change execWbnoinvd p s = _
    rw [execWbnoinvd, stopIf_pass lock, stopIf_pass (by simp [feature]), stopIf_bind_error barred,
      finish_fault, s.gp_eq, State.code0_of_ne_real real]
  all_goals have v86 : s.mode ≠ .v86 := fun v86 => by simp [State.cpl, v86] at ring0
  · change execWbnoinvd p s = _
    rw [execWbnoinvd, stopIf_pass lock, stopIf_pass (by simp [feature]), stopIf_pass (by simp [v86, ring0])]
    exact finish_bind_refuse (by rw [guest, stopIf_true])
  · change execWbnoinvd p s = _
    rw [execWbnoinvd, stopIf_pass lock, stopIf_pass (by simp [feature]), stopIf_pass (by simp [v86, ring0]),
      stopIf_pass host]
    exact finish_bind_refuse (by rw [tx, stopIf_true])
  · exact ⟨_, execWbnoinvd_next.mpr ⟨lock, feature, v86, ring0, host, noTx, rfl⟩, s.frame_advance _ _ _, rfl,
      ⟨rfl, rfl⟩, ⟨rfl, rfl⟩, rfl, rfl, rfl, rfl⟩

end Sys2Proof.Machine

namespace Sys2Proof

/-- Settles O46. -/
theorem movdiri : Obligations.Movdiri := Machine.movdiri_completes

end Sys2Proof
end

section
/-! PROOFS. PCONFIG (43_pconfig.md): the failure codes of its leaf, in the order of R189, and where the
instruction stops (R180, R187, R188). -/

namespace Sys2Proof.Machine

/-! ### Failure codes -/

/-- A failing status check is returned, with the key table and its lock as they were (R189, R190). -/
theorem exec_pconfig_status {p : Pfx} {s : State} {la : Word} {code : Nat} (ready : s.PconfigReady p)
    (place : s.KeyStructAt la) (failing : s.keyError (s.keyStruct la) = some code) :
    ∃ t, exec (.pconfig p) s = .next t ∧ PconfigReturns code (Instr.pconfig p).len s t ∧ SameKeys s t := by
  have answer : s.keyProgram (s.keyStruct la) = (code, s) := by rw [State.keyProgram, failing]
  have run := exec_pconfig ready place
  rw [answer] at run
  exact ⟨_, run, s.pconfigReturns_result s.keyTable s.keyLock s.draws _ _, ⟨rfl, rfl⟩⟩

/-- The key-table lock after an ENTROPY_ERROR exit (D21, C14). -/
def State.lockAfterEntropy (s : State) : KeyLock :=
  if s.cfg.pconfigEntropyReleasesLock then s.keyLock else .exclusive .self

/-- The random command fails at either draw (R190). -/
theorem State.program_noEntropy (s : State) {t : List Byte} (h : field t 2 1 8 = (1 : Byte))
    (dry : Config.entropy s.draws = none ∨ Config.entropy (s.draws + 1) = none) :
    ∃ d, s.program t = (entropyError, { s with keyLock := s.lockAfterEntropy, draws := d }) := by
  have failed : (if s.cfg.pconfigEntropyReleasesLock then s else { s with keyLock := .exclusive .self }) =
      { s with keyLock := s.lockAfterEntropy } := by
    cases release : s.cfg.pconfigEntropyReleasesLock <;> simp [State.lockAfterEntropy, release]
  cases first : Config.entropy s.draws with
  | none => exact ⟨s.draws + 1, by simp [State.program, h, first, failed]⟩
  | some d1 =>
    have second : Config.entropy (s.draws + 1) = none := by simpa [first] using dry
    exact ⟨s.draws + 2, by simp [State.program, h, first, second, failed]⟩

/-- Settles O52: each code is the first failing check of `keyError`, and past them `program_noEntropy`. -/
theorem pconfigStatus : Obligations.PconfigStatus := by
  intro p s la id cmd alg badId badAlg returns ready place
  have hid : id = (field (s.keyStruct la) 0 2 16).toNat := congrArg BitVec.toNat (s.load_keyid la)
  have hcmd : cmd = (field (s.keyStruct la) 2 1 8).toNat := congrArg BitVec.toNat (s.load_command la)
  have hbad : badAlg ↔ numBits (field (s.keyStruct la) 3 2 16) ≠ 1 ∨
      field (s.keyStruct la) 3 2 16 &&& s.msr.tmeCryptoAlgs = 0 := by
    rw [Ne, numBits_eq_one, ← s.load_algorithm]
    simp only [badAlg, alg, not_exists, not_and, ne_eq]
  have codes : s.keyError (s.keyStruct la) =
      if 3 < cmd then some 1 else if badId then some 3 else if badAlg then some 4
      else if s.keyLock ≠ .unlocked then some 5 else none := by
    simp only [hbad, badId, hid, hcmd]
    rfl
  refine ⟨fun big => ?_, fun valid bad => ?_, fun valid good bad => ?_, fun valid good named busy => ?_,
    fun random good named free dry => ?_⟩
  · exact exec_pconfig_status ready place (by rw [codes, if_pos big])
  · exact exec_pconfig_status ready place (by rw [codes, if_neg (Nat.not_lt.mpr valid), if_pos bad])
  · exact exec_pconfig_status ready place
      (by rw [codes, if_neg (Nat.not_lt.mpr valid), if_neg good, if_pos bad])
  · exact exec_pconfig_status ready place
      (by rw [codes, if_neg (Nat.not_lt.mpr valid), if_neg good, if_neg named, if_pos busy])
  · have checks : s.keyError (s.keyStruct la) = none := by
      rw [codes, if_neg (by omega), if_neg good, if_neg named, if_neg (not_not.mpr free)]
    obtain ⟨d, fails⟩ := s.program_noEntropy (t := s.keyStruct la)
      (BitVec.eq_of_toNat_eq (hcmd.symm.trans random)) dry
    have answer : s.keyProgram (s.keyStruct la) =
        (entropyError, { s with keyLock := s.lockAfterEntropy, draws := d }) := by
      rw [State.keyProgram, checks, ← fails]
    have run := exec_pconfig ready place
    rw [answer] at run
    have lock : s.lockAfterEntropy =
        if s.cfg.pconfigEntropyReleasesLock then .unlocked else .exclusive .self := by
      rw [State.lockAfterEntropy, free]
    exact ⟨_, run, rfl, lock, s.pconfigReturns_result s.keyTable _ _ _ _⟩

/-! ### Where PCONFIG stops -/

/-- PCONFIG is #UD (R94, R180, R192). -/
def State.pconfigUndefined (s : State) (p : Pfx) : Bool :=
  p.has .lock || p.has .rep || p.has .repne || p.has .osize || decide (s.mode = .v86) ||
    !s.hasAll [.pconfig] || decide (s.cpl ≠ 0) || (s.inGuest && !s.vmx.pconfigEnable)

/-- PCONFIG's leaf is #GP: another leaf, or MKTME not activated (R187). -/
def State.pconfigUnusable (s : State) : Bool :=
  decide (s.eax ≠ 0) || !s.msr.tmeLock || !s.msr.tmeEnable || decide (s.msr.tmeKeyidBits = 0)

/-- Two checks with one answer are one check. -/
theorem stopIf_stopIf {α : Type} (a b : Bool) (e : Stop) (f : Unit → Except Stop α) :
    (stopIf a e >>= fun _ => stopIf b e >>= f) = (stopIf (a || b) e >>= f) := by
  cases a <;> rfl

theorem State.enterPconfig_eq (s : State) (p : Pfx) :
    s.enterPconfig p = (do
      stopIf (s.pconfigUndefined p) s.ud
      stopIf (s.inGuest && s.pconfigExits s.eax) (.fault (.vmExit .pconfig))
      stopIf s.pconfigUnusable s.gp
      stopIf s.inTx (.refuse .txSilent)) := by
  simp only [State.enterPconfig, stopIf_stopIf, State.pconfigUndefined, State.pconfigUnusable, Bool.or_assoc]

/-- The bit of the leaf among the exiting bits, bit 63 for every leaf above 62 (R180). -/
theorem State.pconfigExits_iff (s : State) (leaf : BitVec 32) :
    s.pconfigExits leaf = true ↔
      62 < leaf.toNat ∧ s.vmx.pconfigExiting.getLsbD 63 = true ∨
        leaf.toNat < 63 ∧ s.vmx.pconfigExiting.getLsbD leaf.toNat = true := by
  rw [State.pconfigExits]
  split <;> rename_i above
  · simp [above, show ¬ leaf.toNat < 63 by omega]
  · simp [above, show leaf.toNat < 63 by omega]

theorem State.pconfigUndefined_iff (s : State) (p : Pfx) :
    s.pconfigUndefined p = true ↔ p.has .lock = true ∨ p.has .rep = true ∨ p.has .repne = true ∨
      p.has .osize = true ∨ s.mode = .v86 ∨ s.hasAll [.pconfig] = false ∨ s.cpl ≠ 0 ∨
      (s.inGuest = true ∧ s.vmx.pconfigEnable = false) := by
  simp [State.pconfigUndefined, or_assoc]

theorem State.pconfigUnusable_iff (s : State) :
    s.pconfigUnusable = true ↔ s.eax ≠ 0 ∨ s.msr.tmeLock = false ∨ s.msr.tmeEnable = false ∨
      s.msr.tmeKeyidBits = 0 := by
  simp [State.pconfigUnusable, or_assoc]

section
variable {s : State} {p : Pfx}

theorem State.enterPconfig_ud (h : s.pconfigUndefined p = true) : s.enterPconfig p = .error s.ud := by
  rw [s.enterPconfig_eq, stopIf_bind_error h]

variable (defined : s.pconfigUndefined p = false)
include defined

theorem State.enterPconfig_exit (exit : (s.inGuest && s.pconfigExits s.eax) = true) :
    s.enterPconfig p = .error (.fault (.vmExit .pconfig)) := by
  rw [s.enterPconfig_eq, stopIf_pass defined, stopIf_bind_error exit]

variable (stays : (s.inGuest && s.pconfigExits s.eax) = false)
include stays

theorem State.enterPconfig_gp (unusable : s.pconfigUnusable = true) : s.enterPconfig p = .error s.gp := by
  rw [s.enterPconfig_eq, stopIf_pass defined, stopIf_pass stays, stopIf_bind_error unusable]

theorem State.enterPconfig_tx (usable : s.pconfigUnusable = false) (tx : s.inTx = true) :
    s.enterPconfig p = .error (.refuse .txSilent) := by
  rw [s.enterPconfig_eq, stopIf_pass defined, stopIf_pass stays, stopIf_pass usable, tx, stopIf_true]

end

/-- A ready PCONFIG goes on with its structure. -/
theorem exec_pconfig_ready {p : Pfx} {s : State} (ready : s.PconfigReady p) :
    exec (.pconfig p) s = finish (do
      let la ← s.checkKeyStruct
      stopIf ((reservedBytes (s.keyStruct la)).any (· ≠ 0)) s.gp
      let r := s.keyProgram (s.keyStruct la)
      .ok ((r.2.pconfigResult r.1).advance (Instr.pconfig p).len)) := by
  change finish (_ >>= _) = _
  rw [State.enterPconfig_ok (u := ()) |>.mpr ready, ok_bind]

theorem State.checkKeyStruct_unaligned {s : State} (legal : s.segOk .ds s.keyAddr 192 .read = true)
    (unaligned : (s.linear .ds s.keyAddr).toNat % 256 ≠ 0) : s.checkKeyStruct = .error s.gp := by
  rw [State.checkKeyStruct, State.checkSegment_pass legal, ok_bind]
  exact stopIf_bind_error (decide_eq_true unaligned)

theorem State.checkKeyStruct_page {s : State} {a : Nat} {c : BitVec 32}
    (legal : s.segOk .ds s.keyAddr 192 .read = true)
    (aligned : (s.linear .ds s.keyAddr).toNat % 256 = 0)
    (page : s.pageFault .read (s.span (s.linear .ds s.keyAddr) 192) = some (a, c)) :
    s.checkKeyStruct = .error (.fault (.exception .pf (some c) (some (BitVec.ofNat 64 a)))) := by
  rw [State.checkKeyStruct, State.checkSegment_pass legal, ok_bind, stopIf_pass (by simp [aligned]),
    State.checkPages_fault page, error_bind]

/-- Settles O53: the checks of `enterPconfig`, then those of the structure. -/
theorem pconfigStops : Obligations.PconfigStops := by
  intro p s undefined exits unusable protects
  have undefined_iff : s.pconfigUndefined p = true ↔ undefined := s.pconfigUndefined_iff p
  have unusable_iff : s.pconfigUnusable = true ↔ unusable := s.pconfigUnusable_iff
  have exits_iff : (s.inGuest && s.pconfigExits s.eax) = true ↔ exits := by
    rw [Bool.and_eq_true, s.pconfigExits_iff]
  simp only [← undefined_iff, ← unusable_iff, ← exits_iff, Bool.not_eq_true]
  refine ⟨fun ud => ?_, fun defined exit => ?_, fun defined stays unusable => ?_,
    fun defined stays usable tx => ?_, fun ready => ⟨fun illegal => ?_, ?_⟩⟩
  · exact finish_bind_ud (State.enterPconfig_ud ud)
  · exact finish_bind_fault (State.enterPconfig_exit defined exit)
  · exact finish_bind_gp (State.enterPconfig_gp defined stays unusable)
  · exact finish_bind_refuse (State.enterPconfig_tx defined stays usable tx)
  · have ds : s.segExc .ds = .gp := by simp [State.segExc]
    change exec (.pconfig p) s = _
    rw [exec_pconfig_ready ready, State.checkKeyStruct, State.checkSegment_fault illegal, ds]
    rfl
  · rintro la legal rfl
    refine ⟨fun unaligned => ?_, fun aligned => ⟨fun a c page => ?_, fun pages reserved => ?_⟩⟩
    · change exec (.pconfig p) s = _
      rw [exec_pconfig_ready ready]
      exact finish_bind_gp (State.checkKeyStruct_unaligned legal unaligned)
    · rw [exec_pconfig_ready ready]
      exact finish_bind_fault (State.checkKeyStruct_page legal aligned page)
    · obtain ⟨i, place, nonzero⟩ := reserved
      have bad : (reservedBytes (s.keyStruct (s.linear .ds s.keyAddr))).any (· ≠ 0) = true := by
        rw [← Bool.not_eq_false, s.reservedBytes_zero]
        exact fun zero => nonzero (zero i place)
      change exec (.pconfig p) s = _
      rw [exec_pconfig_ready ready, State.checkKeyStruct_ok.mpr ⟨legal, rfl, aligned, pages⟩, ok_bind,
        stopIf_bind_error bad, finish_fault, s.gp_eq]

end Sys2Proof.Machine
end

section
/-! PROOFS. The field GF(2^8) modulo 11BH (41_gfni.md section 1): its product is bilinear, so a law of it
holds for all bytes once it holds for the eight powers of two; its inverse table. -/

namespace Sys2Proof.Machine

/-! ### Additive functions of a byte -/

/-- A function of bytes that keeps sums, which over GF(2) are XOR. -/
def Additive (f : Byte → Byte) : Prop := ∀ x y, f (x ^^^ y) = f x ^^^ f y

theorem Additive.zero {f : Byte → Byte} (h : Additive f) : f 0 = 0 := by
  have double := h 0 0
  rwa [BitVec.xor_self, BitVec.xor_self] at double

/-- The sum of the powers of two at the `n` low bits of a byte. -/
def bitSum (x : Byte) : Nat → Byte
  | 0 => 0
  | n + 1 => bitSum x n ^^^ (if x.getLsbD n then BitVec.twoPow 8 n else 0)

theorem bitSum_eight : ∀ x : Byte, bitSum x 8 = x := by decide +kernel

/-- Two additive functions that agree on the eight powers of two are one. -/
theorem Additive.ext {f g : Byte → Byte} (hf : Additive f) (hg : Additive g)
    (h : ∀ k < 8, f (BitVec.twoPow 8 k) = g (BitVec.twoPow 8 k)) (x : Byte) : f x = g x := by
  have upTo : ∀ n ≤ 8, f (bitSum x n) = g (bitSum x n) := by
    intro n
    induction n with
    | zero => intro _; exact hf.zero.trans hg.zero.symm
    | succ n ih =>
      intro le
      rw [bitSum, hf, hg, ih (Nat.le_of_succ_le le)]
      split
      · rw [h n le]
      · rw [hf.zero, hg.zero]
  rw [← bitSum_eight x]
  exact upTo 8 (Nat.le_refl 8)

/-! ### The product -/

theorem xor_xor_xor_comm {w : Nat} (a b c d : BitVec w) : (a ^^^ b) ^^^ (c ^^^ d) = (a ^^^ c) ^^^ (b ^^^ d) := by
  ac_rfl

/-- What the sum of two bits selects is the sum of what each selects. -/
theorem ite_xor {w : Nat} (p q : Bool) (v : BitVec w) :
    (if (p ^^ q) = true then v else 0) = (if p = true then v else 0) ^^^ (if q = true then v else 0) := by
  cases p <;> cases q <;> simp

theorem gfProduct_xor_right (a b c : Byte) (n : Nat) :
    gfProduct a (b ^^^ c) n = gfProduct a b n ^^^ gfProduct a c n := by
  induction n with
  | zero => simp [gfProduct]
  | succ n ih =>
    rw [gfProduct, gfProduct, gfProduct, ih, BitVec.getLsbD_xor, ite_xor, xor_xor_xor_comm]

theorem gfProduct_xor_left (a b c : Byte) (n : Nat) :
    gfProduct (a ^^^ b) c n = gfProduct a c n ^^^ gfProduct b c n := by
  induction n with
  | zero => simp [gfProduct]
  | succ n ih =>
    rw [gfProduct, gfProduct, gfProduct, ih, xor_xor_xor_comm]
    cases c.getLsbD n <;> simp [BitVec.shiftLeft_xor_distrib]

/-- One step of the reduction adds the modulus, shifted, where the bit is set. -/
theorem gfReduce_succ (n : Nat) (t : BitVec 16) :
    gfReduce (n + 1) t = gfReduce n (t ^^^ (if t.getLsbD (8 + n) then 0x11B#16 <<< n else 0)) := by
  rw [gfReduce]
  split <;> simp

theorem gfReduce_xor (n : Nat) (s t : BitVec 16) : gfReduce n (s ^^^ t) = gfReduce n s ^^^ gfReduce n t := by
  induction n generalizing s t with
  | zero => simp [gfReduce]
  | succ n ih =>
    rw [gfReduce_succ, gfReduce_succ, gfReduce_succ, ← ih, BitVec.getLsbD_xor, ite_xor, xor_xor_xor_comm]

theorem mul_xor (a : Byte) : Additive (gf2p8MulByte a) := fun b c => by
  rw [gf2p8MulByte, gfProduct_xor_right, gfReduce_xor, BitVec.setWidth_xor, gf2p8MulByte, gf2p8MulByte]

theorem xor_mul (b : Byte) : Additive (gf2p8MulByte · b) := fun a c => by
  simp only [gf2p8MulByte, gfProduct_xor_left, gfReduce_xor, BitVec.setWidth_xor]

theorem mul_comm_twoPow : ∀ j < 8, ∀ k < 8,
    gf2p8MulByte (BitVec.twoPow 8 j) (BitVec.twoPow 8 k) =
      gf2p8MulByte (BitVec.twoPow 8 k) (BitVec.twoPow 8 j) := by decide +kernel

theorem gfMul_comm (a b : Byte) : gf2p8MulByte a b = gf2p8MulByte b a :=
  (mul_xor a).ext (xor_mul a) (fun k hk =>
    (xor_mul (BitVec.twoPow 8 k)).ext (mul_xor (BitVec.twoPow 8 k))
      (fun j hj => mul_comm_twoPow j hj k hk) a) b

theorem mul_assoc_twoPow : ∀ i < 8, ∀ j < 8, ∀ k < 8,
    gf2p8MulByte (gf2p8MulByte (BitVec.twoPow 8 i) (BitVec.twoPow 8 j)) (BitVec.twoPow 8 k) =
      gf2p8MulByte (BitVec.twoPow 8 i) (gf2p8MulByte (BitVec.twoPow 8 j) (BitVec.twoPow 8 k)) := by
  decide +kernel

/-- The product is associative: each side is additive in each of its three factors. -/
theorem gfMul_assoc (a b c : Byte) :
    gf2p8MulByte (gf2p8MulByte a b) c = gf2p8MulByte a (gf2p8MulByte b c) := by
  have additiveA (b c : Byte) : Additive fun a => gf2p8MulByte (gf2p8MulByte a b) c := fun x y => by
    simp only [xor_mul b x y, xor_mul c _ _]
  have additiveB (a c : Byte) : Additive fun b => gf2p8MulByte (gf2p8MulByte a b) c := fun x y => by
    simp only [mul_xor a x y, xor_mul c _ _]
  have additiveB' (a c : Byte) : Additive fun b => gf2p8MulByte a (gf2p8MulByte b c) := fun x y => by
    simp only [xor_mul c x y, mul_xor a _ _]
  have additiveC (a b : Byte) : Additive fun c => gf2p8MulByte a (gf2p8MulByte b c) := fun x y => by
    simp only [mul_xor b x y, mul_xor a _ _]
  refine (additiveA b c).ext (xor_mul (gf2p8MulByte b c)) (fun i hi => ?_) a
  refine (additiveB (BitVec.twoPow 8 i) c).ext (additiveB' (BitVec.twoPow 8 i) c) (fun j hj => ?_) b
  exact (mul_xor (gf2p8MulByte (BitVec.twoPow 8 i) (BitVec.twoPow 8 j))).ext
    (additiveC (BitVec.twoPow 8 i) (BitVec.twoPow 8 j)) (fun k hk => mul_assoc_twoPow i hi j hj k hk) c

theorem gfMul_one (a : Byte) : gf2p8MulByte a 1 = a :=
  (xor_mul 1).ext (g := id) (fun _ _ => rfl) (by decide +kernel) a

theorem one_gfMul (a : Byte) : gf2p8MulByte 1 a = a := (gfMul_comm 1 a).trans (gfMul_one a)

theorem zero_gfMul (a : Byte) : gf2p8MulByte 0 a = 0 := (xor_mul a).zero

/-- `xtime`: a shift, reduced by 11BH where it carries out of the byte. -/
theorem gfMul_two : ∀ a : Byte, gf2p8MulByte a 2 = (a <<< 1) ^^^ (if a.getLsbD 7 then 0x1B else 0) := by
  decide +kernel

/-! ### The inverse table -/

theorem gfMul_gfInverse : ∀ x : Byte, x ≠ 0 → gf2p8MulByte x (gfInverse x) = 1 := by decide +kernel

theorem gfInverse_gfInverse : ∀ x : Byte, gfInverse (gfInverse x) = x := by decide +kernel

/-- Settles O27. -/
theorem fieldInverseAndProduct : Obligations.FieldInverseAndProduct :=
  ⟨⟨rfl, rfl, gfMul_gfInverse, gfInverse_gfInverse, fun x => affineByte_identity (gfInverse x)⟩,
    fun a b c => ⟨gfMul_comm a b, mul_xor a b c, gfMul_one a, gfMul_two a⟩⟩

end Sys2Proof.Machine
end

section
/-! PROOFS. VAES (45_vaes_vpclmulqdq.md section 2): the round primitives byte by byte, and decryption as the
inverse of encryption. -/

namespace Sys2Proof.Machine

/-! ### The bytes of a state -/

theorem getLsbD_laneOfBytes (f : Nat → Byte) (m i : Nat) (h : i < 128) :
    (laneOfBytes f m).getLsbD i = (decide (i < 8 * m) && (f (i / 8)).getLsbD (i % 8)) := by
  induction m with
  | zero => simp [laneOfBytes]
  | succ m ih =>
    rw [laneOfBytes, BitVec.getLsbD_or, ih, BitVec.getLsbD_shiftLeft, BitVec.getLsbD_setWidth]
    rcases Nat.lt_trichotomy (i / 8) m with lt | rfl | gt
    · simp [show i < 8 * m by omega, show i < 8 * (m + 1) by omega]
    · simp [h, show ¬ i < 8 * (i / 8) by omega, show i < 8 * (i / 8 + 1) by omega,
        show i - 8 * (i / 8) = i % 8 by omega, show i % 8 < 128 by omega]
    · simp [show ¬ i < 8 * m by omega, show ¬ i < 8 * (m + 1) by omega,
        (f m).getLsbD_of_ge (i - 8 * m) (by omega)]

theorem laneByte_laneOfBytes (f : Nat → Byte) {n : Nat} (h : n < 16) :
    laneByte (laneOfBytes f 16) n = f n := by
  refine BitVec.eq_of_getLsbD_eq fun i hi => ?_
  rw [laneByte, BitVec.getLsbD_extractLsb', getLsbD_laneOfBytes f 16 _ (by omega)]
  simp [hi, show 8 * n + i < 128 by omega, show (8 * n + i) / 8 = n by omega, show (8 * n + i) % 8 = i by omega]

/-- A state is its 16 bytes. -/
theorem eq_of_laneByte_eq {v w : BitVec 128} (h : ∀ n < 16, laneByte v n = laneByte w n) : v = w := by
  refine BitVec.eq_of_getLsbD_eq fun i hi => ?_
  have bit := congrArg (BitVec.getLsbD · (i % 8)) (h (i / 8) (by omega))
  simpa [laneByte, show i % 8 < 8 by omega, show 8 * (i / 8) + i % 8 = i by omega] using bit

theorem laneByte_xor (v w : BitVec 128) (n : Nat) : laneByte (v ^^^ w) n = laneByte v n ^^^ laneByte w n :=
  BitVec.extractLsb'_xor

/-! ### The byte substitution -/

theorem length_inverseTable : inverseTable.length = 256 := by decide +kernel

theorem sboxTable_eq_map : sboxTable = inverseTable.map (affineByte 0xF1E3C78F1F3E7CF8 · 0x63) := by
  decide +kernel

/-- The table S is the affine map of the inverse with the matrix and constant of the standard. -/
theorem sboxTable_eq (x : Byte) :
    sboxTable.getD x.toNat 0 = affineInverseByte 0xF1E3C78F1F3E7CF8 x 0x63 := by
  have lt : x.toNat < inverseTable.length := length_inverseTable.symm ▸ x.isLt
  rw [sboxTable_eq_map, List.getD_eq_getElem _ _ (by rwa [List.length_map]), List.getElem_map,
    affineInverseByte, gfInverse, List.getD_eq_getElem _ _ lt]

theorem invSboxTable_sboxTable : ∀ x : Byte,
    invSboxTable.getD (sboxTable.getD x.toNat 0).toNat 0 = x := by decide +kernel

/-! ### The round primitives -/

section
variable (v : BitVec 128) {n : Nat} (h : n < 16)
include h

theorem laneByte_shiftRows :
    laneByte (shiftRows v) n = laneByte v (n % 4 + 4 * ((n / 4 + n % 4) % 4)) :=
  laneByte_laneOfBytes _ h

theorem laneByte_invShiftRows :
    laneByte (invShiftRows v) n = laneByte v (n % 4 + 4 * ((n / 4 + 4 - n % 4) % 4)) :=
  laneByte_laneOfBytes _ h

theorem laneByte_subBytes : laneByte (subBytes v) n = sboxTable.getD (laneByte v n).toNat 0 :=
  laneByte_laneOfBytes _ h

theorem laneByte_invSubBytes : laneByte (invSubBytes v) n = invSboxTable.getD (laneByte v n).toNat 0 :=
  laneByte_laneOfBytes _ h

theorem laneByte_mixWith (k0 k1 k2 k3 : Byte) :
    laneByte (mixWith k0 k1 k2 k3 v) n =
      gf2p8MulByte k0 (laneByte v (4 * (n / 4) + (n + 0) % 4)) ^^^
      gf2p8MulByte k1 (laneByte v (4 * (n / 4) + (n + 1) % 4)) ^^^
      gf2p8MulByte k2 (laneByte v (4 * (n / 4) + (n + 2) % 4)) ^^^
      gf2p8MulByte k3 (laneByte v (4 * (n / 4) + (n + 3) % 4)) :=
  laneByte_laneOfBytes _ h

end

theorem laneByte_subBytes_shiftRows (v : BitVec 128) {n : Nat} (h : n < 16) :
    laneByte (subBytes (shiftRows v)) n =
      affineInverseByte 0xF1E3C78F1F3E7CF8 (laneByte v (n % 4 + 4 * ((n / 4 + n % 4) % 4))) 0x63 := by
  rw [laneByte_subBytes _ h, sboxTable_eq, laneByte_shiftRows _ h]

/-- Settles O31: row `r` of column `c` is byte `r + 4 c`, and MixColumns adds up the rows from `r` on. -/
theorem encryptionRound : Obligations.EncryptionRound := by
  intro st key r c hr hc sub
  have n_lt : r + 4 * c < 16 := by omega
  have row (i : Nat) : laneByte (subBytes (shiftRows st)) (4 * ((r + 4 * c) / 4) + (r + 4 * c + i) % 4) =
      sub i := by
    rw [laneByte_subBytes_shiftRows st (by omega)]
    simp only [sub]
    congr 2
    omega
  have row0 : laneByte (subBytes (shiftRows st)) (r + 4 * c) = sub 0 := by
    rw [← row 0]
    congr 1
    omega
  constructor
  · rw [aesEnc, laneByte_xor, mixColumns, laneByte_mixWith _ n_lt, row, row, row, row, one_gfMul, one_gfMul]
  · rw [aesEncLast, laneByte_xor, row0]

/-! ### Decryption -/

theorem invShiftRows_shiftRows (v : BitVec 128) : invShiftRows (shiftRows v) = v := by
  refine eq_of_laneByte_eq fun n hn => ?_
  rw [laneByte_invShiftRows _ hn, laneByte_shiftRows _ (by omega)]
  congr 1
  omega

/-- The two substitutions and the two row shifts of a round cancel. -/
theorem invSubBytes_invShiftRows_subBytes_shiftRows (v : BitVec 128) :
    invSubBytes (invShiftRows (subBytes (shiftRows v))) = v := by
  refine eq_of_laneByte_eq fun n hn => ?_
  rw [laneByte_invSubBytes _ hn, laneByte_invShiftRows _ hn, laneByte_subBytes _ (by omega),
    invSboxTable_sboxTable, ← laneByte_invShiftRows _ hn, invShiftRows_shiftRows]

/-- What one byte of a column comes to after two mixes. -/
theorem gfMul_gfMul_sum (k0 k1 k2 k3 m0 m1 m2 m3 x : Byte) :
    gf2p8MulByte k0 (gf2p8MulByte m0 x) ^^^ gf2p8MulByte k1 (gf2p8MulByte m1 x) ^^^
      gf2p8MulByte k2 (gf2p8MulByte m2 x) ^^^ gf2p8MulByte k3 (gf2p8MulByte m3 x) =
    gf2p8MulByte (gf2p8MulByte k0 m0 ^^^ gf2p8MulByte k1 m1 ^^^ gf2p8MulByte k2 m2 ^^^ gf2p8MulByte k3 m3) x := by
  simp only [← gfMul_assoc, xor_mul x _ _]

/-- The coefficients of the product of the two mixing matrices: 1 at the byte's own row, else 0. -/
theorem mixCoefficients :
    gf2p8MulByte 0x0E 2 ^^^ gf2p8MulByte 0x0B 1 ^^^ gf2p8MulByte 0x0D 1 ^^^ gf2p8MulByte 0x09 3 = 1 ∧
    gf2p8MulByte 0x0E 3 ^^^ gf2p8MulByte 0x0B 2 ^^^ gf2p8MulByte 0x0D 1 ^^^ gf2p8MulByte 0x09 1 = 0 ∧
    gf2p8MulByte 0x0E 1 ^^^ gf2p8MulByte 0x0B 3 ^^^ gf2p8MulByte 0x0D 2 ^^^ gf2p8MulByte 0x09 1 = 0 ∧
    gf2p8MulByte 0x0E 1 ^^^ gf2p8MulByte 0x0B 1 ^^^ gf2p8MulByte 0x0D 3 ^^^ gf2p8MulByte 0x09 2 = 0 := by
  decide +kernel

/-- One byte of a column, mixed and mixed back. -/
theorem invMix_mix (a b c d : Byte) :
    gf2p8MulByte 0x0E (gf2p8MulByte 2 a ^^^ gf2p8MulByte 3 b ^^^ gf2p8MulByte 1 c ^^^ gf2p8MulByte 1 d) ^^^
    gf2p8MulByte 0x0B (gf2p8MulByte 2 b ^^^ gf2p8MulByte 3 c ^^^ gf2p8MulByte 1 d ^^^ gf2p8MulByte 1 a) ^^^
    gf2p8MulByte 0x0D (gf2p8MulByte 2 c ^^^ gf2p8MulByte 3 d ^^^ gf2p8MulByte 1 a ^^^ gf2p8MulByte 1 b) ^^^
    gf2p8MulByte 0x09 (gf2p8MulByte 2 d ^^^ gf2p8MulByte 3 a ^^^ gf2p8MulByte 1 b ^^^ gf2p8MulByte 1 c) = a := by
  obtain ⟨own, next, second, third⟩ := mixCoefficients
  have ofA := (gfMul_gfMul_sum 0x0E 0x0B 0x0D 0x09 2 1 1 3 a).trans
    ((congrArg (gf2p8MulByte · a) own).trans (one_gfMul a))
  have ofB := (gfMul_gfMul_sum 0x0E 0x0B 0x0D 0x09 3 2 1 1 b).trans
    ((congrArg (gf2p8MulByte · b) next).trans (zero_gfMul b))
  have ofC := (gfMul_gfMul_sum 0x0E 0x0B 0x0D 0x09 1 3 2 1 c).trans
    ((congrArg (gf2p8MulByte · c) second).trans (zero_gfMul c))
  have ofD := (gfMul_gfMul_sum 0x0E 0x0B 0x0D 0x09 1 1 3 2 d).trans
    ((congrArg (gf2p8MulByte · d) third).trans (zero_gfMul d))
  calc _ = (gf2p8MulByte 0x0E (gf2p8MulByte 2 a) ^^^ gf2p8MulByte 0x0B (gf2p8MulByte 1 a) ^^^
          gf2p8MulByte 0x0D (gf2p8MulByte 1 a) ^^^ gf2p8MulByte 0x09 (gf2p8MulByte 3 a)) ^^^
        (gf2p8MulByte 0x0E (gf2p8MulByte 3 b) ^^^ gf2p8MulByte 0x0B (gf2p8MulByte 2 b) ^^^
          gf2p8MulByte 0x0D (gf2p8MulByte 1 b) ^^^ gf2p8MulByte 0x09 (gf2p8MulByte 1 b)) ^^^
        (gf2p8MulByte 0x0E (gf2p8MulByte 1 c) ^^^ gf2p8MulByte 0x0B (gf2p8MulByte 3 c) ^^^
          gf2p8MulByte 0x0D (gf2p8MulByte 2 c) ^^^ gf2p8MulByte 0x09 (gf2p8MulByte 1 c)) ^^^
        (gf2p8MulByte 0x0E (gf2p8MulByte 1 d) ^^^ gf2p8MulByte 0x0B (gf2p8MulByte 1 d) ^^^
          gf2p8MulByte 0x0D (gf2p8MulByte 3 d) ^^^ gf2p8MulByte 0x09 (gf2p8MulByte 2 d)) := by
        simp only [mul_xor _ _ _]
        ac_rfl
    _ = a ^^^ 0 ^^^ 0 ^^^ 0 := by rw [ofA, ofB, ofC, ofD]
    _ = a := by simp

theorem invMixColumns_mixColumns (v : BitVec 128) : invMixColumns (mixColumns v) = v := by
  refine eq_of_laneByte_eq fun n hn => ?_
  have row (i j : Nat) : 4 * ((4 * (n / 4) + (n + i) % 4) / 4) + (4 * (n / 4) + (n + i) % 4 + j) % 4 =
      4 * (n / 4) + (n + (i + j) % 4) % 4 := by omega
  have self : 4 * (n / 4) + (n + 0) % 4 = n := by omega
  rw [invMixColumns, mixColumns, laneByte_mixWith _ hn]
  simp only [laneByte_mixWith _ (show 4 * (n / 4) + (n + 0) % 4 < 16 by omega),
    laneByte_mixWith _ (show 4 * (n / 4) + (n + 1) % 4 < 16 by omega),
    laneByte_mixWith _ (show 4 * (n / 4) + (n + 2) % 4 < 16 by omega),
    laneByte_mixWith _ (show 4 * (n / 4) + (n + 3) % 4 < 16 by omega), row]
  exact (invMix_mix _ _ _ _).trans (congrArg _ self)

/-- Settles O32. -/
theorem decryptionInverts : Obligations.DecryptionInverts := by
  intro st key
  have cancel := invSubBytes_invShiftRows_subBytes_shiftRows st
  have noKey : aesEncLast st 0 = subBytes (shiftRows st) := BitVec.xor_zero
  refine ⟨invMixColumns_mixColumns st, ?_, invShiftRows_shiftRows st, ?_⟩
  · rw [noKey, aesDecLast, cancel]
    exact BitVec.xor_zero
  · rw [noKey, aesDec, cancel]

end Sys2Proof.Machine
end

section
/-! PROOFS. What the vector instructions have in common: first checks, source operands, fault suppression,
and the faults of memory operands (20_memory.md section 13, 60_exceptions.md section 3). -/

namespace Sys2Proof.Machine

/-! ### First checks -/

/-- An EVEX form meets a #UD condition (R115 to R121, R318). -/
def State.evexIllegal (s : State) (r : EvexRow) (vl : VL) (o : EvexOps Rm) : Bool :=
  badBeforeVector o.pfx || s.noVectorMode || evexReserved r o || !s.hasAll (rowFeatures r vl) ||
    !s.avx512Enabled

/-- A VEX form meets a #UD condition (R109, R318; log 6). -/
def State.vexIllegal (s : State) (r : VexRow) (vl : VL) (o : VexOps) : Bool :=
  badBeforeVector o.pfx || s.noVectorMode || !s.hasAll r.feats ||
    decide (s.cfg.maxvl.bits < 8 * vlBytes vl) || !s.avxEnabled

theorem State.enterEvex_eq (s : State) (r : EvexRow) (vl : VL) (o : EvexOps Rm) :
    s.enterEvex r vl o = (do stopIf (s.evexIllegal r vl o) s.ud; stopIf s.taskSwitched s.nm) := by
  simp only [State.enterEvex, stopIf_stopIf, State.evexIllegal, Bool.or_assoc]

theorem State.enterVex_eq (s : State) (r : VexRow) (vl : VL) (o : VexOps) :
    s.enterVex r vl o = (do stopIf (s.vexIllegal r vl o) s.ud; stopIf s.taskSwitched s.nm) := by
  simp only [State.enterVex, stopIf_stopIf, State.vexIllegal, Bool.or_assoc]

theorem State.enterSse_eq (s : State) (p : Pfx) (fs : List Feature) :
    s.enterSse p fs = (do
      stopIf (p.has .lock || (!s.hasAll fs || !s.sseEnabled)) s.ud
      stopIf s.taskSwitched s.nm) := by
  simp only [State.enterSse, stopIf_stopIf]

theorem State.evexIllegal_false {s : State} {r : EvexRow} {vl : VL} {o : EvexOps Rm} :
    s.evexIllegal r vl o = false ↔ s.EvexLegal r vl o := by
  simp only [State.evexIllegal, State.noVectorMode, Bool.or_eq_false_iff, Bool.not_eq_false',
    decide_eq_false_iff_not]
  exact ⟨fun ⟨⟨⟨⟨pfx, real, v86⟩, reserved⟩, feature⟩, enabled⟩ =>
      ⟨pfx, real, v86, reserved, feature, enabled⟩,
    fun h => ⟨⟨⟨⟨h.pfx, h.notReal, h.notV86⟩, h.reserved⟩, h.feature⟩, h.enabled⟩⟩

theorem State.vexIllegal_false {s : State} {r : VexRow} {vl : VL} {o : VexOps} :
    s.vexIllegal r vl o = false ↔ s.VexLegal r vl o := by
  simp only [State.vexIllegal, State.noVectorMode, Bool.or_eq_false_iff, Bool.not_eq_false',
    decide_eq_false_iff_not, Nat.not_lt]
  exact ⟨fun ⟨⟨⟨⟨pfx, real, v86⟩, feature⟩, length⟩, enabled⟩ =>
      ⟨pfx, real, v86, feature, length, enabled⟩,
    fun h => ⟨⟨⟨⟨h.pfx, h.notReal, h.notV86⟩, h.feature⟩, h.length⟩, h.enabled⟩⟩

/-- Two checks in a row, #UD and then #NM, and whatever comes after them. -/
theorem finish_ud_nm (s : State) (c d : Bool) (k : Unit → Except Stop State) :
    (c = true → finish ((do stopIf c s.ud; stopIf d s.nm) >>= k) = .fault (.exception .ud none none)) ∧
    (c = false → d = true →
      finish ((do stopIf c s.ud; stopIf d s.nm) >>= k) = .fault (.exception .nm none none)) := by
  refine ⟨fun hc => finish_bind_ud (stopIf_bind_error hc), fun hc hd => finish_bind_fault ?_⟩
  rw [stopIf_pass hc, hd, ← s.nm_eq]
  rfl

/-- An instruction of an EVEX form begins with the first checks of its row. -/
theorem exec_form_evex {i : Instr} {r : EvexRow} {vl : VL} {o : EvexOps Rm} {imm : Byte}
    (h : i.form = .evex r vl o imm) (s : State) :
    ∃ k, exec i s = finish (s.enterEvex r vl o >>= k) := by
  cases shape i with
  | sse form _ => cases form.symm.trans h
  | vex form _ => cases form.symm.trans h
  | evex form run | shufbit form run | compressStore _ form run | compressReg form run | expandLoad form run
  | expandReg form run =>
    cases form.symm.trans h
    exact ⟨_, run s⟩
  | movdiri name _ => rcases name with ⟨-, rfl⟩ | ⟨-, rfl⟩ <;> cases h
  | movdir64b name | cldemote name | wbnoinvd name | pconfig name | umonitor name | tpause name
  | umwait name => subst name; cases h

/-- An instruction of a VEX form is the shared operation of its row. -/
theorem exec_form_vex {i : Instr} {r : VexRow} {l : Bool} {o : VexOps} {imm : Byte}
    (h : i.form = .vex r l o imm) (s : State) : ∃ w f, exec i s = vexOp r l o (w := w) f s := by
  cases shape i with
  | vex form run =>
    cases form.symm.trans h
    exact ⟨_, _, run s⟩
  | sse form _ | evex form _ | shufbit form _ | compressStore _ form _ | compressReg form _
  | expandLoad form _ | expandReg form _ => cases form.symm.trans h
  | movdiri name _ => rcases name with ⟨-, rfl⟩ | ⟨-, rfl⟩ <;> cases h
  | movdir64b name | cldemote name | wbnoinvd name | pconfig name | umonitor name | tpause name
  | umwait name => subst name; cases h

/-- What a VEX form does past its first checks. -/
def vexRest (r : VexRow) (l : Bool) (o : VexOps) (w : Nat) (f : Vec → Vec → Nat → BitVec w) (s : State) :
    Except Stop State := do
  let src2 ← s.vexSource o.pfx (Form.vex r l o 0).len (vlBytes (vexLength l)) o.rm
  let v := pack w (vlElems (vexLength l) w) (f (s.zmmAt (o.vvvv.setWidth 5)) src2)
  .ok ((s.setZmm (o.reg.setWidth 5) v).advance (Form.vex r l o 0).len)

theorem vexOp_enter (r : VexRow) (l : Bool) (o : VexOps) (w : Nat) (f : Vec → Vec → Nat → BitVec w)
    (s : State) :
    vexOp r l o w f s = finish (s.enterVex r (vexLength l) o >>= fun _ => vexRest r l o w f s) := rfl

/-- Settles O21: every form begins with `enterEvex` or `enterVex`, which are #UD and then #NM. -/
theorem vectorFirstChecks : Obligations.VectorFirstChecks := by
  refine fun i imm s => ⟨fun r vl o form => ?_, fun r l o form => ?_⟩
  · obtain ⟨k, run⟩ := exec_form_evex form s
    rw [run, s.enterEvex_eq, ← State.evexIllegal_false, Bool.not_eq_false]
    exact finish_ud_nm s _ _ k
  · obtain ⟨w, f, run⟩ := exec_form_vex form s
    rw [run, vexOp_enter, s.enterVex_eq, ← State.vexIllegal_false, Bool.not_eq_false]
    exact finish_ud_nm s _ _ _

/-! ### The legacy-SSE forms -/

/-- The three legacy GFNI instructions are one shared operation. -/
theorem exec_sse {i : Instr} {p : Pfx} {reg : BitVec 4} {rm : Rm} {imm : Byte}
    (h : i = .gf2p8affineinvqb p reg rm imm ∨ i = .gf2p8affineqb p reg rm imm ∨ i = .gf2p8mulb p reg rm)
    (s : State) : ∃ f, exec i s = sseOp i.form p [.gfni] reg rm 8 16 f s := by
  rcases h with rfl | rfl | rfl <;> exact ⟨_, rfl⟩

/-- Past its first checks a legacy-SSE form goes on with its source. -/
theorem sseOp_ready {form : Form} {p : Pfx} {reg : BitVec 4} {rm : Rm} {w n : Nat}
    {f : Vec → Vec → Nat → BitVec w} {s : State} (ready : s.SseReady p) :
    ∃ k, sseOp form p [.gfni] reg rm w n f s = finish (s.sseSource p form.len rm >>= k) :=
  ⟨_, by rw [sseOp, State.enterSse_ok (u := ()) |>.mpr ready, ok_bind]⟩

theorem code0_or_real (s : State) : s.code0 = some 0 ∨ s.mode = .real := by
  rw [State.code0]
  split
  · exact .inr ‹_›
  · exact .inl rfl

/-- Settles O22. -/
theorem sseChecks : Obligations.SseChecks := by
  intro i p reg rm imm s name
  obtain ⟨f, run⟩ := exec_sse name s
  have checks := finish_ud_nm s (p.has .lock || (!s.hasAll [.gfni] || !s.sseEnabled)) s.taskSwitched fun _ => do
    let src ← s.sseSource p i.form.len rm
    let old := s.zmmAt (reg.setWidth 5)
    .ok ((s.setZmm (reg.setWidth 5) (keepUpper old (pack 8 16 (f old src)))).advance i.form.len)
  rw [← s.enterSse_eq] at checks
  rw [run]
  refine ⟨fun illegal => checks.1 ?_, fun lock feature enabled ts => checks.2 ?_ ts, ?_⟩
  · rcases illegal with feature | em | osfxsr
    · simp [feature]
    · have off : s.sseEnabled = false := by rw [State.sseEnabled, em, Bool.not_true, Bool.false_and]
      simp [off]
    · have off : s.sseEnabled = false := by rw [State.sseEnabled, osfxsr, Bool.and_false]
      simp [off]
  · simp [lock, feature, enabled]
  · rintro m ready rfl legal unaligned
    obtain ⟨k, source⟩ := sseOp_ready (f := f) (reg := reg) (rm := .mem m) (n := 16) (form := i.form) ready
    refine ⟨s.code0, ?_, code0_or_real s⟩
    rw [source]
    refine finish_bind_gp ?_
    change s.sseSource p i.len _ = _
    rw [State.sseSource, State.checkSegment_pass legal, ok_bind]
    exact stopIf_bind_error (decide_eq_true unaligned)

/-! ### Source operands -/

theorem State.sseSource_mem {s : State} {p : Pfx} {len : Nat} {m : Mem}
    (legal : s.segOk (s.segOf p m) (s.operandAddr p len 1 m) 16 .read = true)
    (aligned : (s.linear (s.segOf p m) (s.operandAddr p len 1 m)).toNat % 16 = 0) :
    s.sseSource p len (.mem m) = (do
      s.checkPages .read (s.span (s.linear (s.segOf p m) (s.operandAddr p len 1 m)) 16)
      .ok (s.load (s.linear (s.segOf p m) (s.operandAddr p len 1 m)) 16 512)) := by
  rw [State.sseSource, State.checkSegment_pass legal, ok_bind, stopIf_pass (by simp [aligned])]

/-- One piece at the operand's own address. -/
theorem State.checkPieces_whole {s : State} {g : SegReg} {ea : Word} {n : Nat} {acc : Access}
    (h : s.PiecePasses g ea n acc) : s.checkPieces g ea acc [(0, n)] = .ok () := by
  refine (State.checkPieces_cons ?_).trans rfl
  rwa [BitVec.add_zero]

theorem State.evexSource_reg {s : State} {r : EvexRow} {vl : VL} {o : EvexOps Rm} {g : BitVec 5}
    (h : o.rm = .reg g) : s.evexSource r vl o = .ok (s.zmmAt g) := by
  rw [State.evexSource, h]

/-- What an EVEX form makes of the bytes of its memory operand. -/
def State.evexLoad (s : State) (r : EvexRow) (vl : VL) (b : Bool) (la : Word) : Vec :=
  if b then pack (8 * r.bcst) (vlBytes vl / r.bcst) fun _ => s.load la r.bcst (8 * r.bcst)
  else s.load la (vlBytes vl) 512

theorem State.evexSource_mem {s : State} {r : EvexRow} {vl : VL} {o : EvexOps Rm} {m : Mem}
    (h : o.rm = .mem m) : s.evexSource r vl o = (do
      s.checkPieces (s.segOf o.pfx m) (s.evexAddr r vl o m) .read (s.pieces r vl o.aaa o.b)
      .ok (s.evexLoad r vl o.b (s.linear (s.segOf o.pfx m) (s.evexAddr r vl o m)))) := by
  rw [State.evexSource, h, State.evexLoad]
  cases o.b <;> rfl

section
variable (s : State) (r : EvexRow) (vl : VL) {aaa : BitVec 3}

theorem State.pieces_whole (h : aaa = 0 ∨ s.suppresses r = false) :
    s.pieces r vl aaa false = [(0, vlBytes vl)] := by
  rcases h with rfl | h
  · simp [State.pieces]
  · simp [State.pieces, h]

theorem State.pieces_active (mask : aaa ≠ 0) (suppress : s.suppresses r = true) :
    s.pieces r vl aaa false = (s.actives aaa (vlBytes vl / r.elem)).map (fun j => (j * r.elem, r.elem)) := by
  rw [State.pieces, if_neg Bool.false_ne_true, suppress, Bool.true_and, if_pos (decide_eq_true mask)]

theorem State.pieces_broadcast (h : s.suppresses r = false ∨ s.actives aaa (vlBytes vl / r.elem) ≠ []) :
    s.pieces r vl aaa true = [(0, r.bcst)] := by
  rcases h with h | h
  · simp [State.pieces, h]
  · simp [State.pieces, h]

theorem State.pieces_broadcast_none (suppress : s.suppresses r = true)
    (none : s.actives aaa (vlBytes vl / r.elem) = []) : s.pieces r vl aaa true = [] := by
  simp [State.pieces, suppress, none]

end

/-- An element is among the active ones exactly when its mask bit, or no writemask, makes it so. -/
theorem State.mem_actives {s : State} {aaa : BitVec 3} {n j : Nat} :
    j ∈ s.actives aaa n ↔ j < n ∧ s.active aaa j = true := by
  rw [State.actives, List.mem_filter, List.mem_range]

theorem State.actives_ne_nil {s : State} {aaa : BitVec 3} {n : Nat} :
    s.actives aaa n ≠ [] ↔ ∃ j, j < n ∧ s.active aaa j = true := by
  simp only [← State.mem_actives]
  exact ⟨List.exists_mem_of_ne_nil _, fun ⟨_, listed⟩ => List.ne_nil_of_mem listed⟩

/-- Byte `j` of a broadcast is byte `j` modulo its size of the one element (R121). -/
theorem State.elem_broadcast (s : State) (la : Word) (vl : VL) {c j : Nat} (size : c = 4 ∨ c = 8)
    (hj : j < vlBytes vl) :
    elem 8 (pack (8 * c) (vlBytes vl / c) fun _ => s.load la c (8 * c)) j =
      s.readAt (s.byteAddr la (j % c)) := by
  have pos : 0 < c := by omega
  have fits : 8 * c * (vlBytes vl / c) ≤ 512 := by
    rw [Nat.mul_assoc]
    exact (Nat.mul_le_mul_left 8 (Nat.mul_div_le _ c)).trans (vlBytes_le vl)
  have element : j / c < vlBytes vl / c := by
    rcases size with rfl | rfl <;> cases vl <;> simp only [vlBytes] at hj ⊢ <;> omega
  have place : j = j / c * c + j % c := by rw [Nat.mul_comm]; exact (Nat.div_add_mod j c).symm
  conv_lhs => rw [place]
  rw [elem_byte c _ _ _ (Nat.mod_lt _ pos), elem_pack _ element fits]
  refine BitVec.eq_of_getLsbD_eq fun k hk => ?_
  have inside := Nat.mod_lt j pos
  rw [BitVec.getLsbD_extractLsb', State.getLsbD_load, show (8 * (j % c) + k) / 8 = j % c by omega,
    show (8 * (j % c) + k) % 8 = k by omega]
  simp [hk, inside, show 8 * (j % c) + k < 8 * c by omega]

theorem State.evexSource_whole {s : State} {r : EvexRow} {vl : VL} {o : EvexOps Rm} {m : Mem}
    (h : o.rm = .mem m)
    (passes : s.checkPieces (s.segOf o.pfx m) (s.evexAddr r vl o m) .read (s.pieces r vl o.aaa o.b) = .ok ()) :
    s.evexSource r vl o = .ok (s.evexLoad r vl o.b (s.linear (s.segOf o.pfx m) (s.evexAddr r vl o m))) := by
  rw [State.evexSource_mem h, passes, ok_bind]

/-- Settles O23. -/
theorem vectorSource : Obligations.VectorSource := by
  intro s p len r vl o
  have fits := vlBytes_le vl
  refine ⟨fun _ => rfl, fun _ _ => rfl, fun g => State.evexSource_reg, ?_, ?_, ?_, ?_⟩
  · rintro m la legal rfl aligned pages
    refine ⟨_, ?_, fun j hj => s.elem_load _ hj (by omega)⟩
    rw [State.sseSource_mem legal aligned, State.checkPages_pass pages, ok_bind]
  · rintro m la n legal rfl room pages
    refine ⟨_, ?_, fun j hj => s.elem_load _ hj (by omega)⟩
    rw [State.vexSource, State.checkPieces_whole ⟨legal, pages⟩, ok_bind]
  · rintro m la mem whole full legal rfl pages
    refine ⟨_, State.evexSource_whole mem ?_, fun j hj => ?_⟩
    · rw [whole, s.pieces_whole r vl full]
      exact State.checkPieces_whole ⟨legal, pages⟩
    · rw [whole]
      exact s.elem_load _ hj (by omega)
  · rintro m la mem broadcast size legal rfl pages
    refine ⟨_, State.evexSource_whole mem ?_, fun j hj => ?_⟩
    · rw [broadcast]
      by_cases none : s.suppresses r = true ∧ s.actives o.aaa (vlBytes vl / r.elem) = []
      · rw [s.pieces_broadcast_none r vl none.1 none.2]
        rfl
      · rw [s.pieces_broadcast r vl (by simpa only [not_and_or, Bool.not_eq_true] using none)]
        exact State.checkPieces_whole ⟨legal, pages⟩
    · rw [broadcast]
      exact s.elem_broadcast _ vl size hj

/-! ### Fault suppression -/

/-- With a writemask an element is active by its bit. -/
theorem State.active_of_mask (s : State) {aaa : BitVec 3} (mask : aaa ≠ 0) (j : Nat) :
    s.active aaa j = (s.kAt aaa).getLsbD j := by
  rw [State.active, decide_eq_false mask, Bool.false_or]

/-- Settles O24. -/
theorem faultSuppression : Obligations.FaultSuppression := by
  rintro s e vl o m _ g ea n sz mem rfl suppress mask
  refine ⟨fun whole passes => ?_, fun broadcast none => ?_⟩
  · refine ⟨_, State.evexSource_whole mem ?_, fun j b hj hb _ => ?_⟩
    · rw [whole, s.pieces_active e.row vl mask suppress]
      refine State.checkPieces_ok.mpr fun piece listed => ?_
      obtain ⟨j, active, rfl⟩ := List.mem_map.mp listed
      obtain ⟨hj, active⟩ := State.mem_actives.mp active
      exact passes j hj (s.active_of_mask mask j ▸ active)
    · have inside : j * sz + b < vlBytes vl := calc
        j * sz + b < (j + 1) * sz := by rw [Nat.add_mul]; omega
        _ ≤ n * sz := Nat.mul_le_mul_right sz hj
        _ ≤ vlBytes vl := Nat.div_mul_le_self _ _
      have fits := vlBytes_le vl
      rw [whole]
      exact s.elem_load _ inside (by omega)
  · have empty : s.actives o.aaa n = [] := by
      rw [← not_ne_iff, State.actives_ne_nil]
      rintro ⟨j, hj, active⟩
      rw [s.active_of_mask mask, none j hj] at active
      cases active
    exact ⟨_, State.evexSource_whole mem (by rw [broadcast, s.pieces_broadcast_none e.row vl suppress empty]; rfl)⟩

/-! ### Faults of memory operands -/

theorem State.sseSource_fault {s : State} {p : Pfx} {len : Nat} {m : Mem} {f : Fault}
    (aligned : s.segOk (s.segOf p m) (s.operandAddr p len 1 m) 16 .read = true →
      (s.linear (s.segOf p m) (s.operandAddr p len 1 m)).toNat % 16 = 0)
    (faults : s.PieceFaults (s.segOf p m) (s.operandAddr p len 1 m) 16 .read f) :
    s.sseSource p len (.mem m) = .error (.fault f) := by
  rcases faults with ⟨illegal, rfl⟩ | ⟨legal, a, c, page, rfl⟩
  · rw [State.sseSource, State.checkSegment_fault illegal, error_bind]
  · rw [State.sseSource_mem legal (aligned legal), State.checkPages_fault page, error_bind]

/-- One piece at the operand's own address faults. -/
theorem State.checkPieces_whole_fault {s : State} {g : SegReg} {ea : Word} {n : Nat} {acc : Access}
    {f : Fault} (h : s.PieceFaults g ea n acc f) : s.checkPieces g ea acc [(0, n)] = .error (.fault f) := by
  refine State.checkPieces_fault ?_
  rwa [BitVec.add_zero]

theorem State.vexSource_fault {s : State} {p : Pfx} {len n : Nat} {m : Mem} {f : Fault}
    (faults : s.PieceFaults (s.segOf p m) (s.operandAddr p len 1 m) n .read f) :
    s.vexSource p len n (.mem m) = .error (.fault f) := by
  rw [State.vexSource, State.checkPieces_whole_fault faults, error_bind]

theorem State.evexSource_fault {s : State} {r : EvexRow} {vl : VL} {o : EvexOps Rm} {m : Mem} {f : Fault}
    (h : o.rm = .mem m)
    (faults : s.checkPieces (s.segOf o.pfx m) (s.evexAddr r vl o m) .read (s.pieces r vl o.aaa o.b) =
      .error (.fault f)) :
    s.evexSource r vl o = .error (.fault f) := by
  rw [State.evexSource_mem h, faults, error_bind]

/-- Pieces that pass leave the checks to those after them. -/
theorem State.checkPieces_append {s : State} {g : SegReg} {ea : Word} {acc : Access} {ps : List (Nat × Nat)}
    (qs : List (Nat × Nat)) (h : ∀ p ∈ ps, s.PiecePasses g (ea + BitVec.ofNat 64 p.1) p.2 acc) :
    s.checkPieces g ea acc (ps ++ qs) = s.checkPieces g ea acc qs := by
  induction ps with
  | nil => rfl
  | cons p ps ih =>
    rw [List.forall_mem_cons] at h
    rw [List.cons_append, State.checkPieces_cons h.1, ih h.2]

/-- The active elements below an active one come before it. -/
theorem State.actives_split {s : State} {aaa : BitVec 3} {n j : Nat} (hj : j < n)
    (active : s.active aaa j = true) : ∃ above, s.actives aaa n = s.actives aaa j ++ j :: above := by
  obtain ⟨m, rfl⟩ := Nat.exists_eq_add_of_lt hj
  refine ⟨(((List.range m).map Nat.succ).map (j + ·)).filter (s.active aaa), ?_⟩
  rw [State.actives, State.actives, Nat.add_assoc, List.range_add, List.filter_append,
    List.range_succ_eq_map, List.map_cons, List.filter_cons_of_pos (by simpa using active), Nat.add_zero]

/-- Past its first checks an EVEX form goes on with its source. -/
theorem exec_make_source (e : EOp) (vl : VL) {o : EvexOps Rm} (imm : Byte) {s : State}
    (ready : s.EvexReady e.row vl o) :
    ∃ k, exec (e.make vl o imm) s = finish (s.evexSource e.row vl o >>= k) := by
  by_cases h : e = .vpshufbitqmb
  · subst h
    exact ⟨_, by rw [exec_make_vpshufbitqmb, shufbit, State.enterEvex_ok (u := ()) |>.mpr ready, ok_bind]⟩
  · exact ⟨_, by rw [EOp.exec_make h, evexOp, State.enterEvex_ok (u := ()) |>.mpr ready, ok_bind]⟩

/-- Past its first checks a form of VPCOMPRESS or VPEXPAND with a memory operand goes on with its operand. -/
theorem exec_makeMem_check (e : POp) (vl : VL) {o : EvexOps Mem} {s : State}
    (ready : s.EvexReady e.memRow vl o.anyMem) :
    ∃ k, exec (e.makeMem vl o) s = finish (s.denseCheck e.memRow vl o
      (if e = .vpcompressb ∨ e = .vpcompressw then .write else .read) >>= k) := by
  have enter := State.enterEvex_ok (u := ()) |>.mpr ready
  by_cases h : e = .vpcompressb ∨ e = .vpcompressw
  · exact ⟨_, by rw [exec_makeMem_compress h, compressStore, enter, ok_bind, if_pos h]⟩
  · have expand : e = .vpexpandb ∨ e = .vpexpandw := by cases e <;> simp at h ⊢
    exact ⟨_, by rw [exec_makeMem_expand expand, expandLoad, enter, ok_bind, if_neg h]⟩

/-- Settles O25, form by form: the first check of the operand that fails is the source's. -/
theorem vectorMemoryFaults : Obligations.VectorMemoryFaults := by
  intro i s m imm f
  refine ⟨fun p reg name ready aligned faults => ?_, fun r l o form mem ready faults => ?_, ?_, ?_⟩
  · obtain ⟨f, run⟩ := exec_sse name s
    obtain ⟨k, source⟩ := sseOp_ready (f := f) (reg := reg) (rm := .mem m) (n := 16) (form := i.form) ready
    rw [run, source]
    exact finish_bind_fault (State.sseSource_fault aligned faults)
  · obtain ⟨w, g, run⟩ := exec_form_vex form s
    rw [run, vexOp_enter, State.enterVex_ok (u := ()) |>.mpr ready, ok_bind, vexRest, Form.vex_len form, mem]
    exact finish_bind_fault (State.vexSource_fault faults)
  · rintro e vl o rfl mem ready g ea sz n
    obtain ⟨k, source⟩ := exec_make_source e vl imm ready
    have fault (h : s.checkPieces g ea .read (s.pieces e.row vl o.aaa o.b) = .error (.fault f)) :
        exec (e.make vl o imm) s = .fault f := by
      rw [source]
      exact finish_bind_fault (State.evexSource_fault mem h)
    refine ⟨fun whole full faults => fault ?_, fun broadcast some faults => fault ?_,
      fun j whole suppress mask hj active faults below => fault ?_⟩
    · rw [whole, s.pieces_whole e.row vl full]
      exact State.checkPieces_whole_fault faults
    · rw [broadcast, s.pieces_broadcast e.row vl (some.imp id State.actives_ne_nil.mpr)]
      exact State.checkPieces_whole_fault faults
    · obtain ⟨above, split⟩ := State.actives_split hj active
      rw [whole, s.pieces_active e.row vl mask suppress, split, List.map_append, List.map_cons,
        State.checkPieces_append _ fun piece listed => ?_]
      · exact State.checkPieces_fault faults
      · obtain ⟨k, lower, rfl⟩ := List.mem_map.mp listed
        obtain ⟨hk, active⟩ := State.mem_actives.mp lower
        exact below k hk active
  · rintro e vl o rfl ready sz bytes some faults
    obtain ⟨k, check⟩ := exec_makeMem_check e vl ready
    have touched : s.touched e.memRow vl o.aaa = bytes := by
      have elems : vlElems vl (8 * e.memRow.elem) = vlBytes vl / sz := Nat.mul_div_mul_left _ _ (by decide)
      rw [State.touched, elems]
      rfl
    rw [check]
    refine finish_bind_fault ?_
    rw [State.denseCheck, State.touchedPieces, touched, if_neg some]
    exact State.checkPieces_whole_fault faults

end Sys2Proof.Machine
end

section
/-! PROOFS. Which faults there are, what each carries and what it records (60_exceptions.md): every check of
every instruction is taken once, in the order of the model's definitions. -/

namespace Sys2Proof.Machine

/-! ### Faults of a computation -/

/-- A computation stops with no fault but those of `P`. -/
def FaultsIn (P : Fault → Prop) {α : Type} (x : Except Stop α) : Prop :=
  ∀ f, x = .error (.fault f) → P f

section
variable {P Q : Fault → Prop} {α β : Type}

theorem FaultsIn.ok (a : α) : FaultsIn P (.ok a) := nofun

theorem FaultsIn.bind {x : Except Stop α} {k : α → Except Stop β} (hx : FaultsIn P x)
    (hk : ∀ a, FaultsIn P (k a)) : FaultsIn P (x >>= k) := by
  intro f h
  rcases bind_error.mp h with h | ⟨a, -, h⟩
  · exact hx f h
  · exact hk a f h

theorem FaultsIn.stopIf {c : Bool} {e : Stop} (h : c = true → ∀ f, e = .fault f → P f) :
    FaultsIn P (stopIf c e) := fun f stop => by
  obtain ⟨hc, he⟩ := stopIf_error.mp stop
  exact h hc f he

theorem FaultsIn.refuse (c : Bool) (r : Refusal) : FaultsIn P (Machine.stopIf c (.refuse r)) :=
  .stopIf nofun

theorem FaultsIn.mono {x : Except Stop α} (hx : FaultsIn P x) (h : ∀ f, P f → Q f) : FaultsIn Q x :=
  fun f hf => h f (hx f hf)

theorem FaultsIn.of_finish {x : Except Stop State} (hx : FaultsIn P x) {f : Fault}
    (h : finish x = .fault f) : P f :=
  hx f (finish_fault.mp h)

end

/-! ### The exceptions -/

/-- An exception as it is raised, with its code and address (R66, R69, R74, R313, R316). -/
inductive State.Raises (s : State) : Fault → Prop
  | plain {e : Exc} (h : e = .ud ∨ e = .nm) : s.Raises (.exception e none none)
  | coded {e : Exc} (h : e = .ss ∨ e = .gp) : s.Raises (.exception e s.code0 none)
  | ac (notReal : s.mode ≠ .real) : s.Raises (.exception .ac s.code0 none)
  | page (notReal : s.mode ≠ .real) (c : BitVec 32) (a : Word) : s.Raises (.exception .pf (some c) (some a))

section
variable {s : State}

theorem FaultsIn.ud (c : Bool) : FaultsIn s.Raises (Machine.stopIf c s.ud) :=
  .stopIf fun _ _ h => Stop.fault.inj (s.ud_eq.symm.trans h) ▸ .plain (.inl rfl)

theorem FaultsIn.nm (c : Bool) : FaultsIn s.Raises (Machine.stopIf c s.nm) :=
  .stopIf fun _ _ h => Stop.fault.inj (s.nm_eq.symm.trans h) ▸ .plain (.inr rfl)

theorem FaultsIn.gp (c : Bool) : FaultsIn s.Raises (Machine.stopIf c s.gp) :=
  .stopIf fun _ _ h => Stop.fault.inj (s.gp_eq.symm.trans h) ▸ .coded (.inr rfl)

/-- Alignment is checked at CPL 3 only, so not in real-address mode (R69). -/
theorem State.mode_of_alignChecked (h : s.alignChecked = true) : s.mode ≠ .real := fun real => by
  simp [State.alignChecked, State.cpl, real] at h

theorem FaultsIn.unaligned (c : Bool) : FaultsIn s.Raises (Machine.stopIf (s.alignChecked && c) s.ac) :=
  .stopIf fun checked _ h => Stop.fault.inj (s.ac_eq.symm.trans h) ▸
    .ac (State.mode_of_alignChecked (Bool.and_eq_true_iff.mp checked).1)

theorem FaultsIn.undefined {α : Type} : FaultsIn s.Raises (.error s.ud : Except Stop α) := fun _ h =>
  Stop.fault.inj (s.ud_eq.symm.trans (Except.error.inj h)) ▸ .plain (.inl rfl)

theorem FaultsIn.checkLinear {e : Exc} (he : e = .ss ∨ e = .gp) (g : SegReg) (ea : Word) (n : Nat)
    (acc : Access) : FaultsIn s.Raises (s.checkLinear e g ea n acc) := by
  intro f h
  cases legal : s.segOk g ea n acc
  · rw [State.checkLinear_fail e legal] at h
    cases h
    exact .coded he
  · rw [State.checkLinear_pass e legal] at h
    cases h

theorem FaultsIn.checkSegment (g : SegReg) (ea : Word) (n : Nat) (acc : Access) :
    FaultsIn s.Raises (s.checkSegment g ea n acc) :=
  .checkLinear (by rw [State.segExc]; split <;> simp) g ea n acc

theorem FaultsIn.checkPages (acc : Access) (as : List Nat) : FaultsIn s.Raises (s.checkPages acc as) := by
  intro f h
  match fault : s.pageFault acc as with
  | none => rw [State.checkPages_pass fault] at h; cases h
  | some (a, c) =>
    have notReal : s.mode ≠ .real := fun real => by simp [State.pageFault_real real] at fault
    rw [State.checkPages_fault fault] at h
    cases h
    exact .page notReal c _

theorem FaultsIn.checkPieces (g : SegReg) (ea : Word) (acc : Access) (ps : List (Nat × Nat)) :
    FaultsIn s.Raises (s.checkPieces g ea acc ps) := by
  induction ps with
  | nil => exact .ok ()
  | cons p ps ih => exact .bind (.checkSegment _ _ _ _) fun _ => .bind (.checkPages _ _) fun _ => ih

/-! ### First checks and sources -/

theorem FaultsIn.enterSse (p : Pfx) (fs : List Feature) : FaultsIn s.Raises (s.enterSse p fs) := by
  rw [s.enterSse_eq]
  exact .bind (.ud _) fun _ => .nm _

theorem FaultsIn.enterVex (r : VexRow) (vl : VL) (o : VexOps) : FaultsIn s.Raises (s.enterVex r vl o) := by
  rw [s.enterVex_eq]
  exact .bind (.ud _) fun _ => .nm _

theorem FaultsIn.enterEvex (r : EvexRow) (vl : VL) (o : EvexOps Rm) :
    FaultsIn s.Raises (s.enterEvex r vl o) := by
  rw [s.enterEvex_eq]
  exact .bind (.ud _) fun _ => .nm _

theorem FaultsIn.sseSource (p : Pfx) (len : Nat) (rm : Rm) : FaultsIn s.Raises (s.sseSource p len rm) := by
  cases rm with
  | reg r => exact .ok _
  | mem m =>
    exact .bind (.checkSegment _ _ _ _) fun _ => .bind (.gp _) fun _ => .bind (.checkPages _ _) fun _ => .ok _

theorem FaultsIn.vexSource (p : Pfx) (len n : Nat) (rm : Rm) :
    FaultsIn s.Raises (s.vexSource p len n rm) := by
  cases rm with
  | reg r => exact .ok _
  | mem m => exact .bind (.checkPieces _ _ _ _) fun _ => .ok _

theorem FaultsIn.evexSource (r : EvexRow) (vl : VL) (o : EvexOps Rm) :
    FaultsIn s.Raises (s.evexSource r vl o) := by
  cases rm : o.rm with
  | reg g => rw [State.evexSource_reg rm]; exact .ok _
  | mem m => rw [State.evexSource_mem rm]; exact .bind (.checkPieces _ _ _ _) fun _ => .ok _

theorem FaultsIn.enterDirect (p : Pfx) (f : Feature) (no66 : Bool) :
    FaultsIn s.Raises (s.enterDirect p f no66) :=
  .bind (.ud _) fun _ => .bind (.ud _) fun _ => .bind (.ud _) fun _ => .refuse _ _

theorem FaultsIn.enterWait (p : Pfx) (rm : Rm) : FaultsIn s.Raises (s.enterWait p rm) := by
  refine .bind (.ud _) fun _ => .bind (.ud _) fun _ => ?_
  cases rm with
  | mem m => exact .undefined
  | reg r => exact .bind (.gp _) fun _ => .ok _

end

/-! ### Every fault of every instruction -/

/-- A fault of an instruction: an exception, or one of the three that only some instructions have. -/
inductive FaultOf (i : Instr) (s : State) : Fault → Prop
  | raised {f : Fault} (h : s.Raises f) : FaultOf i s f
  | abort (tx : s.inTx = true)
      (name : (∃ p rm, i = .umonitor p rm ∨ i = .umwait p rm) ∨ ∃ p m, i = .cldemote p m) :
      FaultOf i s .txAbort
  | exit (guest : s.inGuest = true) (name : ∃ p, i = .pconfig p) : FaultOf i s (.vmExit .pconfig)
  | reset (pending : Event.reset ∈ s.pending) (name : ∃ p rm, i = .tpause p rm ∨ i = .umwait p rm) :
      FaultOf i s .resetSignal

section
variable {i : Instr} {s : State} {α : Type}

theorem FaultsIn.raised {x : Except Stop α} (h : FaultsIn s.Raises x) : FaultsIn (FaultOf i s) x :=
  h.mono fun _ => .raised

theorem FaultsIn.abort (c : Bool) (tx : c = true → s.inTx = true)
    (name : (∃ p rm, i = .umonitor p rm ∨ i = .umwait p rm) ∨ ∃ p m, i = .cldemote p m) :
    FaultsIn (FaultOf i s) (Machine.stopIf c (.fault .txAbort)) :=
  .stopIf fun hc _ h => Stop.fault.inj h ▸ .abort (tx hc) name

theorem FaultsIn.resumeWait (w : Wait) (name : ∃ p rm, i = .tpause p rm ∨ i = .umwait p rm) :
    FaultsIn (FaultOf i s) (s.resumeWait w) := by
  intro f h
  by_cases pending : s.pending.contains .reset
  · rw [State.resumeWait, if_pos pending] at h
    cases h
    exact .reset (by simpa using pending) name
  · rw [State.resumeWait, if_neg pending] at h
    split at h <;> cases h

theorem FaultsIn.enterPconfig (p : Pfx) (name : i = .pconfig p) :
    FaultsIn (FaultOf i s) (s.enterPconfig p) := by
  rw [s.enterPconfig_eq]
  refine .bind (.raised (.ud _)) fun _ => .bind (.stopIf fun exit _ h => ?_) fun _ =>
    .bind (.raised (.gp _)) fun _ => .refuse _ _
  exact Stop.fault.inj h ▸ .exit (Bool.and_eq_true_iff.mp exit).1 ⟨p, name⟩

end

/-- The faults of an instruction, by the shared operation that it is. -/
theorem exec_fault {i : Instr} {s : State} {f : Fault} (h : exec i s = .fault f) : FaultOf i s f := by
  cases shape i with
  | sse form run =>
    rw [run] at h
    exact .raised (FaultsIn.of_finish
      (.bind (.enterSse _ _) fun _ => .bind (.sseSource _ _ _) fun _ => .ok _) h)
  | vex form run =>
    rw [run, vexOp_enter] at h
    exact .raised (FaultsIn.of_finish
      (.bind (.enterVex _ _ _) fun _ => .bind (.vexSource _ _ _ _) fun _ => .ok _) h)
  | evex form run =>
    rw [run] at h
    exact .raised (FaultsIn.of_finish
      (.bind (.enterEvex _ _ _) fun _ => .bind (.evexSource _ _ _) fun _ => .ok _) h)
  | shufbit form run =>
    rw [run] at h
    exact .raised (FaultsIn.of_finish
      (.bind (.enterEvex _ _ _) fun _ => .bind (.evexSource _ _ _) fun _ => .ok _) h)
  | compressStore name form run =>
    rw [run] at h
    exact .raised (FaultsIn.of_finish
      (.bind (.enterEvex _ _ _) fun _ => .bind (.checkPieces _ _ _ _) fun _ => .ok _) h)
  | expandLoad form run =>
    rw [run] at h
    exact .raised (FaultsIn.of_finish
      (.bind (.enterEvex _ _ _) fun _ => .bind (.checkPieces _ _ _ _) fun _ => .ok _) h)
  | compressReg form run =>
    rw [run] at h
    exact .raised (FaultsIn.of_finish (.bind (.enterEvex _ _ _) fun _ => .ok _) h)
  | expandReg form run =>
    rw [run] at h
    exact .raised (FaultsIn.of_finish (.bind (.enterEvex _ _ _) fun _ => .ok _) h)
  | movdiri name run =>
    rw [run] at h
    exact .raised (FaultsIn.of_finish (.bind (.enterDirect _ _ _) fun _ => .bind (.checkSegment _ _ _ _)
      fun _ => .bind (.unaligned _) fun _ => .bind (.checkPages _ _) fun _ => .ok _) h)
  | movdir64b name =>
    subst name
    exact .raised (FaultsIn.of_finish (.bind (.enterDirect _ _ _) fun _ => .bind (.checkSegment _ _ _ _)
      fun _ => .bind (.checkSegment _ _ _ _) fun _ => .bind (.gp _) fun _ => .bind (.checkPages _ _)
      fun _ => .bind (.checkPages _ _) fun _ => .ok _) h)
  | cldemote name =>
    subst name
    refine FaultsIn.of_finish (.bind (.raised (.ud _)) fun _ => ?_) h
    split
    · rename_i may
      exact .bind (.abort _ (fun _ => (State.demoteMayAbort_iff.mp may).2.1) (.inr ⟨_, _, rfl⟩)) fun _ => .ok _
    · exact .ok _
  | wbnoinvd name =>
    subst name
    exact .raised (FaultsIn.of_finish (.bind (.ud _) fun _ => .bind (.refuse _ _) fun _ => .bind (.gp _)
      fun _ => .bind (.refuse _ _) fun _ => .bind (.refuse _ _) fun _ => .ok _) h)
  | pconfig name =>
    subst name
    refine FaultsIn.of_finish (.bind (.enterPconfig _ rfl) fun _ => .bind (.raised ?_) fun _ =>
      .bind (.raised (.gp _)) fun _ => .ok _) h
    exact .bind (.checkSegment _ _ _ _) fun _ => .bind (.gp _) fun _ => .bind (.checkPages _ _) fun _ => .ok _
  | umonitor name =>
    subst name
    refine FaultsIn.of_finish (.bind (.raised (.ud _)) fun _ => .bind (.raised (.ud _)) fun _ => ?_) h
    split
    · exact .raised .undefined
    · exact .bind (.raised (.checkLinear (by rw [State.monitorExc]; split <;> simp) _ _ _ _)) fun _ =>
        .bind (.raised (.checkPages _ _)) fun _ =>
          .bind (.abort _ id (.inl ⟨_, _, .inl rfl⟩)) fun _ => .ok _
  | tpause name =>
    subst name
    exact FaultsIn.of_finish (.bind (.raised (.enterWait _ _)) fun _ => .resumeWait _ ⟨_, _, .inl rfl⟩) h
  | umwait name =>
    subst name
    exact FaultsIn.of_finish (.bind (.raised (.enterWait _ _)) fun _ =>
      .bind (.abort _ id (.inl ⟨_, _, .inr rfl⟩)) fun _ => .resumeWait _ ⟨_, _, .inr rfl⟩) h

/-! ### What a fault carries -/

section
variable {i : Instr} {s : State} {e : Exc} {c : Option (BitVec 32)} {a : Option Word}

theorem FaultOf.raises (h : FaultOf i s (.exception e c a)) : s.Raises (.exception e c a) := by
  cases h with
  | raised h => exact h

theorem State.Raises.pf (h : s.Raises (.exception .pf c a)) :
    s.mode ≠ .real ∧ (∃ code, c = some code) ∧ ∃ addr, a = some addr := by
  cases h with
  | plain h => simp at h
  | coded h => simp at h
  | page notReal code addr => exact ⟨notReal, ⟨code, rfl⟩, addr, rfl⟩

theorem State.Raises.not_pf (other : e ≠ .pf) (h : s.Raises (.exception e c a)) :
    a = none ∧ c = if e = .ud ∨ e = .nm ∨ s.mode = .real then none else some 0 := by
  cases h with
  | plain h => exact ⟨rfl, (if_pos (h.imp_right .inl)).symm⟩
  | coded h =>
    refine ⟨rfl, ?_⟩
    rcases h with rfl | rfl <;> simp [State.code0]
  | ac notReal => exact ⟨rfl, by simp [State.code0]⟩
  | page => exact absurd rfl other

theorem State.Raises.notReal (h : s.Raises (.exception e c a)) (special : e = .pf ∨ e = .ac) :
    s.mode ≠ .real := by
  cases h with
  | plain h => rcases special with rfl | rfl <;> simp at h
  | coded h => rcases special with rfl | rfl <;> simp at h
  | ac notReal => exact notReal
  | page notReal => exact notReal

end

/-- Settles O16: by the list of faults in `FaultOf` and `State.Raises`. -/
theorem stopRecords : Obligations.StopRecords := by
  refine ⟨⟨rfl, rfl, rfl, rfl, rfl, rfl⟩, fun i s f h => ?_⟩
  have fault := exec_fault h
  refine ⟨?_, ?_, ?_, ?_, ?_, ?_⟩
  · rintro c a rfl
    obtain ⟨-, ⟨code, rfl⟩, addr, rfl⟩ := fault.raises.pf
    exact ⟨rfl, addr, rfl, rfl⟩
  · rintro e c a rfl other
    obtain ⟨rfl, code⟩ := fault.raises.not_pf other
    exact ⟨rfl, code, by cases e <;> rfl⟩
  · rintro e c a rfl real
    exact ⟨fun pf => fault.raises.notReal (.inl pf) real, fun ac => fault.raises.notReal (.inr ac) real⟩
  · rintro r rfl
    cases fault with
    | raised h => cases h
    | exit guest name => exact ⟨name, guest, rfl⟩
  · rintro rfl
    cases fault with
    | raised h => cases h
    | abort tx name => exact ⟨tx, name, rfl⟩
  · rintro rfl
    cases fault with
    | raised h => cases h
    | reset pending name => exact ⟨pending, name, rfl⟩

end Sys2Proof.Machine
end

section
/-! PROOFS. The parts of an encoding (30_encoding.md sections 1 and 2): bit fields, displacements, ModRM and
SIB, immediates. What each writes, its reader takes back, and a proper beginning of it is too short. -/

namespace Sys2Proof

/-! ### Bit fields -/

theorem fields_threeFields : ∀ (a : BitVec 2) (b c : BitVec 3),
    modField (threeFields a b c) = a ∧ regField (threeFields a b c) = b ∧
      rmField (threeFields a b c) = c := by decide +kernel

@[simp] theorem modField_threeFields (a : BitVec 2) (b c : BitVec 3) : modField (threeFields a b c) = a :=
  (fields_threeFields a b c).1

@[simp] theorem regField_threeFields (a : BitVec 2) (b c : BitVec 3) : regField (threeFields a b c) = b :=
  (fields_threeFields a b c).2.1

@[simp] theorem rmField_threeFields (a : BitVec 2) (b c : BitVec 3) : rmField (threeFields a b c) = c :=
  (fields_threeFields a b c).2.2

theorem num4_low3 : ∀ r : BitVec 4, num4 (r.getLsbD 3) (low3 r) = r := by decide

theorem num5_low3 : ∀ r : BitVec 5, num5 (r.getLsbD 4) (r.getLsbD 3) (low3 r) = r := by decide

theorem le16_bytes16 (v : BitVec 16) : le16 (v.extractLsb' 0 8) (v.extractLsb' 8 8) = v := by
  refine BitVec.eq_of_getLsbD_eq fun i hi => ?_
  rw [le16, BitVec.getLsbD_append, BitVec.getLsbD_extractLsb', BitVec.getLsbD_extractLsb']
  split
  · simp [*]
  · simp [show i - 8 < 8 by omega, show 8 + (i - 8) = i by omega]

theorem le32_bytes32 (v : BitVec 32) :
    le32 (v.extractLsb' 0 8) (v.extractLsb' 8 8) (v.extractLsb' 16 8) (v.extractLsb' 24 8) = v := by
  refine BitVec.eq_of_getLsbD_eq fun i hi => ?_
  simp only [le32, BitVec.getLsbD_append, BitVec.getLsbD_extractLsb']
  split
  · simp [*]
  split
  · simp [*, show 8 + (i - 8) = i by omega]
  split
  · simp [*, show 16 + (i - 8 - 8) = i by omega]
  · simp [show i - 8 - 8 - 8 < 8 by omega, show 24 + (i - 8 - 8 - 8) = i by omega]

/-! ### Readers -/

/-- A reader of instruction bytes. -/
abbrev Reader (α : Type) := List Byte → Except DecErr (α × List Byte)

/-- A reader takes just the given bytes for the value, and needs them all. -/
structure Reads {α : Type} (read : Reader α) (bs : List Byte) (v : α) : Prop where
  all : ∀ rest, read (bs ++ rest) = .ok (v, rest)
  part : ∀ n, n < bs.length → read (bs.take n) = .error .short

section
variable {α β : Type} {read : Reader α} {f : Reader β} {bs cs : List Byte} {v : α} {w : β}

/-- One reader after another. -/
theorem Reads.bind (next : α → Reader β) (hf : ∀ x, f x = read x >>= fun r => next r.1 r.2)
    (h : Reads read bs v) (k : Reads (next v) cs w) : Reads f (bs ++ cs) w where
  all rest := by
    rw [hf, List.append_assoc, h.all]
    exact k.all rest
  part n hn := by
    rw [hf]
    rcases Nat.lt_or_ge n bs.length with lt | ge
    · rw [List.take_append_of_le_length (Nat.le_of_lt lt), h.part n lt]
      rfl
    · rw [List.take_append, List.take_of_length_le ge, h.all]
      rw [List.length_append] at hn
      exact k.part _ (by omega)

/-- A reader whose value is made into another. -/
theorem Reads.map (g : α → β) (hf : ∀ x, f x = read x >>= fun r => .ok (g r.1, r.2))
    (h : Reads read bs v) : Reads f bs (g v) where
  all rest := by
    rw [hf, h.all]
    rfl
  part n hn := by
    rw [hf, h.part n hn]
    rfl

/-- A reader that takes one byte and goes on. -/
theorem Reads.cons {g : Reader α} {b : Byte} (empty : read [] = .error .short)
    (hf : ∀ x, read (b :: x) = g x) (h : Reads g bs v) : Reads read (b :: bs) v where
  all rest := (hf _).trans (h.all rest)
  part n hn := by
    cases n with
    | zero => exact empty
    | succ n => exact (hf _).trans (h.part n (Nat.lt_of_succ_lt_succ hn))

theorem Reads.nil (hf : ∀ x, read x = .ok (v, x)) : Reads read [] v where
  all rest := hf rest
  part _ hn := absurd hn (Nat.not_lt_zero _)

/-- A reader after which nothing more is taken. -/
theorem Reads.last (next : α → Reader β) (hf : ∀ x, f x = read x >>= fun r => next r.1 r.2)
    (h : Reads read bs v) (k : ∀ x, next v x = .ok (w, x)) : Reads f bs w :=
  List.append_nil bs ▸ h.bind next hf (.nil k)

/-- The next 16 bits, lowest byte first (R64). -/
def takeWord (mk : BitVec 16 → α) : Reader α
  | b0 :: b1 :: x => .ok (mk (le16 b0 b1), x)
  | _ => .error .short

/-- The next 32 bits, lowest byte first (R64). -/
def takeDword (mk : BitVec 32 → α) : Reader α
  | b0 :: b1 :: b2 :: b3 :: x => .ok (mk (le32 b0 b1 b2 b3), x)
  | _ => .error .short

theorem Reads.bytes16 (mk : BitVec 16 → α) (hf : ∀ x, read x = takeWord mk x) (u : BitVec 16) :
    Reads read (bytes16 u) (mk u) where
  all rest := by
    rw [hf, Sys2Proof.bytes16, List.cons_append, List.cons_append, List.nil_append, takeWord, le16_bytes16]
  part n hn := by
    rw [hf]
    rw [Sys2Proof.bytes16] at hn ⊢
    match n, hn with
    | 0, _ | 1, _ => rfl

theorem Reads.bytes32 (mk : BitVec 32 → α) (hf : ∀ x, read x = takeDword mk x) (u : BitVec 32) :
    Reads read (bytes32 u) (mk u) where
  all rest := by
    rw [hf, Sys2Proof.bytes32]
    exact congrArg (fun w => Except.ok (mk w, rest)) (le32_bytes32 u)
  part n hn := by
    rw [hf]
    rw [Sys2Proof.bytes32] at hn ⊢
    match n, hn with
    | 0, _ | 1, _ | 2, _ | 3, _ => rfl

end

/-! ### Displacements -/

/-- A displacement that addressing of a size can have (R99). -/
def Disp.wf (a : ASize) (d : Disp) : Bool := if a = .a16 then d.wf16 else d.wf32

theorem takeDisp_reads {a : ASize} {d : Disp} (h : d.wf a = true) : Reads (takeDisp a d.mod) d.bytes d := by
  cases d with
  | none => exact .nil fun _ => rfl
  | d8 v => exact .cons rfl (fun _ => rfl) (.nil fun _ => rfl)
  | d16 v =>
    cases a with
    | a16 => exact .bytes16 Disp.d16 (fun _ => rfl) v
    | a32 | a64 => cases h
  | d32 v =>
    cases a with
    | a16 => cases h
    | a32 | a64 => exact .bytes32 Disp.d32 (fun _ => rfl) v

/-! ### Memory operands -/

/-- `ModRM.mod` of a memory operand. -/
def Mem.mod : Mem → BitVec 2
  | .a16 _ d | .base _ d | .sib _ _ _ d => d.mod
  | .abs16 _ | .rel _ | .sibAbs _ _ _ => 0

/-- `ModRM.rm` of a memory operand. -/
def Mem.rm : Mem → BitVec 3
  | .a16 rm _ => rm
  | .abs16 _ => 6
  | .rel _ => 5
  | .base b _ => low3 b
  | .sib _ _ _ _ | .sibAbs _ _ _ => 4

/-- What stands after the ModRM byte of a memory operand. -/
def Mem.after : Mem → List Byte
  | .a16 _ d | .base _ d => d.bytes
  | .abs16 v => bytes16 v
  | .rel v => bytes32 v
  | .sib s i b d => threeFields s (low3 i) (low3 b) :: d.bytes
  | .sibAbs s i v => threeFields s (low3 i) 5 :: bytes32 v

theorem Mem.bytes_eq (reg : BitVec 3) (m : Mem) : m.bytes reg = threeFields m.mod reg m.rm :: m.after := by
  cases m <;> rfl

theorem Disp.mod_ne_three (d : Disp) : d.mod ≠ 3 := by cases d <;> simp [Disp.mod]

theorem Mem.mod_ne_three (m : Mem) : m.mod ≠ 3 := by
  cases m with
  | a16 _ d | base _ d | sib _ _ _ d => exact d.mod_ne_three
  | abs16 _ | rel _ | sibAbs _ _ _ => simp [Mem.mod]

theorem Disp.mod_eq_zero {d : Disp} : d.mod = 0 ↔ d = .none := by cases d <;> simp [Disp.mod]

/-! ### Reading memory operands, by their addressing -/

section
variable {a : ASize} {d : Disp}

theorem takeMem_reads_a16 {rm : BitVec 3} (x b : Bool) (disp : d.wf .a16 = true)
    (other : ¬(d.mod = 0 ∧ rm = 6)) : Reads (takeMem .a16 x b d.mod rm) d.bytes (.a16 rm d) := by
  refine .map (Mem.a16 rm) (fun bs => ?_) (takeDisp_reads disp)
  rw [takeMem.eq_def, if_pos rfl, if_neg other]

variable (wide : a ≠ .a16)
include wide

theorem takeMem_reads_rel (x b : Bool) (v : BitVec 32) : Reads (takeMem a x b 0 5) (bytes32 v) (.rel v) := by
  cases a with
  | a16 => exact absurd rfl wide
  | a32 | a64 =>
    exact .bytes32 Mem.rel (fun _ => rfl) v

theorem takeMem_reads_base {r : BitVec 4} (x : Bool) (disp : d.wf a = true) (noSib : low3 r ≠ 4)
    (other : ¬(d.mod = 0 ∧ low3 r = 5)) :
    Reads (takeMem a x (r.getLsbD 3) d.mod (low3 r)) d.bytes (.base r d) := by
  have hr := num4_low3 r
  refine .map (Mem.base r) (fun bs => ?_) (takeDisp_reads disp)
  rw [takeMem.eq_def, if_neg wide, if_neg noSib, if_neg other, hr]

theorem takeMem_reads_sib {s : BitVec 2} {i r : BitVec 4} (disp : d.wf a = true)
    (other : ¬(d.mod = 0 ∧ low3 r = 5)) :
    Reads (takeMem a (i.getLsbD 3) (r.getLsbD 3) d.mod 4) (threeFields s (low3 i) (low3 r) :: d.bytes)
      (.sib s i r d) := by
  refine .cons (g := fun bs => takeDisp a d.mod bs >>= fun q => .ok (Mem.sib s i r q.1, q.2)) ?_ (fun bs => ?_)
    (.map (Mem.sib s i r) (fun _ => rfl) (takeDisp_reads disp))
  · rw [takeMem, if_neg wide, if_pos rfl]
  · simp only [takeMem, if_neg wide, if_pos, modField_threeFields, regField_threeFields, rmField_threeFields,
      num4_low3, if_neg other]

theorem takeMem_reads_sibAbs {s : BitVec 2} {i : BitVec 4} (b : Bool) (v : BitVec 32) :
    Reads (takeMem a (i.getLsbD 3) b 0 4) (threeFields s (low3 i) 5 :: bytes32 v) (.sibAbs s i v) := by
  refine .cons (g := takeDword (Mem.sibAbs s i)) (by rw [takeMem, if_neg wide, if_pos rfl]) (fun x => ?_)
    (.bytes32 (Mem.sibAbs s i) (fun _ => rfl) v)
  rw [takeMem.eq_def, if_neg wide, if_pos rfl]
  simp only [modField_threeFields, regField_threeFields, rmField_threeFields, num4_low3, and_self, if_true]
  rfl

end

/-- What follows a ModRM byte is read as the operand that wrote it (R97 to R102). -/
theorem takeMem_reads {a : ASize} {ext : Bool} {m : Mem} (h : m.wf a ext = true) :
    Reads (takeMem a m.extX m.extB m.mod m.rm) m.after m := by
  cases m with
  | a16 rm d =>
    simp only [Mem.wf, Bool.and_eq_true, decide_eq_true_eq, Bool.not_eq_true', Bool.and_eq_false_iff,
      decide_eq_false_iff_not] at h
    obtain ⟨⟨rfl, disp⟩, other⟩ := h
    exact takeMem_reads_a16 _ _ disp fun ⟨zero, six⟩ => other.elim (· six) (· (Disp.mod_eq_zero.mp zero))
  | abs16 v =>
    obtain rfl : a = .a16 := by simpa [Mem.wf] using h
    exact .bytes16 Mem.abs16 (fun _ => rfl) v
  | rel v => exact takeMem_reads_rel (by simpa [Mem.wf] using h) _ _ v
  | base r d =>
    simp only [Mem.wf, Bool.and_eq_true, decide_eq_true_eq, Bool.not_eq_true', Bool.and_eq_false_iff,
      decide_eq_false_iff_not] at h
    obtain ⟨⟨⟨⟨wide, disp⟩, noSib⟩, other⟩, -⟩ := h
    exact takeMem_reads_base wide _ (by rwa [Disp.wf, if_neg wide]) noSib
      fun ⟨zero, five⟩ => other.elim (· five) (· (Disp.mod_eq_zero.mp zero))
  | sib s i r d =>
    simp only [Mem.wf, Bool.and_eq_true, decide_eq_true_eq, Bool.not_eq_true', Bool.and_eq_false_iff,
      decide_eq_false_iff_not] at h
    obtain ⟨⟨⟨wide, disp⟩, other⟩, -⟩ := h
    exact takeMem_reads_sib wide (by rwa [Disp.wf, if_neg wide])
      fun ⟨zero, five⟩ => other.elim (· five) (· (Disp.mod_eq_zero.mp zero))
  | sibAbs s i v =>
    simp only [Mem.wf, Bool.and_eq_true, decide_eq_true_eq] at h
    exact takeMem_reads_sibAbs h.1 _ v

/-! ### ModRM and immediate -/

/-- The ModRM byte of an operand (R97). -/
def Rm.modRm (reg : BitVec 3) : Rm → Byte
  | .reg r => threeFields 3 reg (low3 r)
  | .mem m => threeFields m.mod reg m.rm

/-- What stands after the ModRM byte of an operand. -/
def Rm.after : Rm → List Byte
  | .reg _ => []
  | .mem m => m.after

theorem Rm.bytes_eq (reg : BitVec 3) (o : Rm) : o.bytes reg = o.modRm reg :: o.after := by
  cases o with
  | reg r => rfl
  | mem m => exact m.bytes_eq reg

@[simp] theorem Rm.regField_modRm (reg : BitVec 3) (o : Rm) : regField (o.modRm reg) = reg := by
  cases o <;> simp [Rm.modRm]

/-- `mod` is 11 exactly for a register (R97, R106). -/
theorem Rm.modField_modRm (reg : BitVec 3) (o : Rm) :
    modField (o.modRm reg) = 3 ↔ ∃ r, o = .reg r := by
  cases o with
  | reg r => simp [Rm.modRm]
  | mem m => simpa [Rm.modRm] using m.mod_ne_three

/-- The operand is read back; `hi` is bit 4 of a register number (R97, R108, R119). -/
theorem takeRm_reads {a : ASize} {ext hi : Bool} {top : Nat} {o : Rm} (reg : BitVec 3)
    (h : o.wf a ext top = true) (high : ∀ r, o = .reg r → hi = r.getLsbD 4) :
    Reads (takeRm a hi o.extX o.extB (o.modRm reg)) o.after o := by
  cases o with
  | reg r =>
    refine .nil fun x => ?_
    rw [takeRm, if_pos ((Rm.modField_modRm reg _).mpr ⟨r, rfl⟩), high r rfl]
    simp only [Rm.modRm, rmField_threeFields]
    rw [Rm.extB, num5_low3]
  | mem m =>
    refine .map Rm.mem (fun x => ?_) (takeMem_reads h)
    simp only [takeRm, Rm.modRm, modField_threeFields, rmField_threeFields, if_neg m.mod_ne_three]
    rfl

theorem takeImm_reads {has : Bool} {i : Byte} (h : (has || decide (i = 0)) = true) :
    Reads (takeImm has) (immBytes has i) i := by
  cases has with
  | true => exact .cons rfl (fun _ => rfl) (.nil fun _ => rfl)
  | false =>
    obtain rfl : i = 0 := by simpa using h
    exact .nil fun _ => rfl

/-! ### Extension bits -/

theorem getLsbD_of_lt_eight : ∀ r : BitVec 5, r.toNat < 8 → r.getLsbD 4 = false ∧ r.getLsbD 3 = false := by
  decide

theorem getLsbD_of_lt_sixteen : ∀ r : BitVec 5, r.toNat < 16 → r.getLsbD 4 = false := by decide

theorem getLsbD_three_of_lt_eight : ∀ r : BitVec 4, r.toNat < 8 → r.getLsbD 3 = false := by decide

/-- Without extension bits an operand needs none (R108, R119). -/
theorem Rm.ext_of_wf {a : ASize} {o : Rm} (h : o.wf a false 8 = true) : o.extX = false ∧ o.extB = false := by
  cases o with
  | reg r => exact getLsbD_of_lt_eight r (by simpa [Rm.wf] using h)
  | mem m =>
    cases m with
    | a16 _ _ | abs16 _ | rel _ => exact ⟨rfl, rfl⟩
    | base r d =>
      simp only [Rm.wf, Mem.wf, Bool.and_eq_true, Bool.false_or, decide_eq_true_eq] at h
      exact ⟨rfl, getLsbD_three_of_lt_eight r h.2⟩
    | sib s i r d =>
      simp only [Rm.wf, Mem.wf, Bool.and_eq_true, Bool.false_or, decide_eq_true_eq] at h
      exact ⟨getLsbD_three_of_lt_eight i h.2.1, getLsbD_three_of_lt_eight r h.2.2⟩
    | sibAbs s i v =>
      simp only [Rm.wf, Mem.wf, Bool.and_eq_true, Bool.false_or, decide_eq_true_eq] at h
      exact ⟨getLsbD_three_of_lt_eight i h.2, rfl⟩

theorem Rm.high_of_wf {a : ASize} {ext : Bool} {top : Nat} {o : Rm} (h : o.wf a ext top = true)
    (le : top ≤ 16) (r : BitVec 5) (reg : o = .reg r) : false = r.getLsbD 4 := by
  subst reg
  have lt : r.toNat < top := by simpa [Rm.wf] using h
  exact (getLsbD_of_lt_sixteen r (by omega)).symm

theorem RmForm.ok_modRm (f : RmForm) (reg : BitVec 3) (o : Rm) : f.ok (o.modRm reg) = f.holds o := by
  cases o with
  | reg r =>
    have mod : modField ((Rm.reg r).modRm reg) = 3 := (Rm.modField_modRm reg _).mpr ⟨r, rfl⟩
    cases f <;> simp [RmForm.ok, RmForm.holds, mod]
  | mem m =>
    have mod : modField ((Rm.mem m).modRm reg) ≠ 3 := fun three => by
      obtain ⟨r, h⟩ := (Rm.modField_modRm reg _).mp three
      cases h
    cases f with
    | any => rfl
    | mem => exact decide_eq_true mod
    | reg => exact decide_eq_false mod

end Sys2Proof
end

section
/-! PROOFS. What stands before the opcode (30_encoding.md section 1): the bytes of R91, an ignored REX byte
among them, are scanned back as they were written; then the opcode decides the format. -/

namespace Sys2Proof

/-! ### One byte -/

/-- A byte that ends the scan: no byte of R91. -/
def stopsScan (m : Mode) (b : Byte) : Bool := !isRex m b && (legacyByte b).isNone

section
variable {m : Mode} {pend : Option (BitVec 4)} {b : Byte}

theorem scanBytes_rex (h : isRex m b = true) (bs : List Byte) :
    scanBytes m pend (b :: bs) =
      (flushRex pend ++ (scanBytes m (some (b.extractLsb' 0 4)) bs).1,
        (scanBytes m (some (b.extractLsb' 0 4)) bs).2) := by
  rw [scanBytes, if_pos h]

theorem scanBytes_legacy {x : Prefix} (h : isRex m b = false) (hx : legacyByte b = some x) (bs : List Byte) :
    scanBytes m pend (b :: bs) =
      (flushRex pend ++ x :: (scanBytes m none bs).1, (scanBytes m none bs).2) := by
  rw [scanBytes, if_neg (Bool.eq_false_iff.mp h), hx]

theorem scanBytes_stop (h : stopsScan m b = true) (bs : List Byte) :
    scanBytes m pend (b :: bs) = ([], pend, b :: bs) := by
  simp only [stopsScan, Bool.and_eq_true, Bool.not_eq_true', Option.isNone_iff_eq_none] at h
  rw [scanBytes, if_neg (Bool.eq_false_iff.mp h.1), h.2]

end

theorem isRex_byte {m : Mode} {x : Prefix} (h : x ≠ .deadRex) : isRex m x.byte = false := by
  have field : x.byte.extractLsb' 4 4 ≠ 4 := by
    cases x with
    | deadRex => exact absurd rfl h
    | seg r => cases r <;> decide
    | _ => decide
  rw [isRex, decide_eq_false field, Bool.and_false]

theorem legacyByte_byte {x : Prefix} (h : x ≠ .deadRex) : legacyByte x.byte = some x := by
  cases x with
  | deadRex => exact absurd rfl h
  | seg r => cases r <;> decide
  | _ => decide

/-- The REX byte with its four bits (R95). -/
def rexByte (w r x b : Bool) : Byte :=
  4#4 ++ BitVec.ofBool w ++ BitVec.ofBool r ++ BitVec.ofBool x ++ BitVec.ofBool b

/-- The four bits of a REX byte. -/
def rexBits (w r x b : Bool) : BitVec 4 :=
  BitVec.ofBool w ++ BitVec.ofBool r ++ BitVec.ofBool x ++ BitVec.ofBool b

theorem rexByte_fields : ∀ w r x b : Bool,
    (rexByte w r x b).extractLsb' 4 4 = 4 ∧ (rexByte w r x b).extractLsb' 0 4 = rexBits w r x b := by decide

theorem isRex_rexByte (w r x b : Bool) : isRex .bits64 (rexByte w r x b) = true := by
  simp [isRex, (rexByte_fields w r x b).1]

/-! ### The written bytes -/

theorem isRex_deadRex : isRex .bits64 Prefix.deadRex.byte = true := by decide

/-- Bytes of R91 before a REX byte that the opcode follows. -/
theorem scanBytes_map_rex (qs : List Prefix) (pend : Option (BitVec 4)) (w r x b : Bool) {c : List Byte}
    (stop : ∀ q, scanBytes .bits64 q c = ([], q, c)) :
    scanBytes .bits64 pend (qs.map Prefix.byte ++ rexByte w r x b :: c) =
      (flushRex pend ++ qs, some (rexBits w r x b), c) := by
  induction qs generalizing pend with
  | nil =>
    rw [List.map_nil, List.nil_append, scanBytes_rex (isRex_rexByte w r x b), stop,
      (rexByte_fields w r x b).2]
  | cons q qs ih =>
    rw [List.map_cons, List.cons_append]
    by_cases dead : q = .deadRex
    · rw [dead, scanBytes_rex isRex_deadRex, ih]
      rfl
    · rw [scanBytes_legacy (isRex_byte dead) (legacyByte_byte dead), ih]
      rfl

/-- Bytes of R91 that the opcode follows, the last of them no ignored REX byte. -/
theorem scanBytes_map {m : Mode} (qs : List Prefix) (pend : Option (BitVec 4)) {c : List Byte}
    (stop : ∀ q, scanBytes m q c = ([], q, c)) (dead : .deadRex ∈ qs → m = .bits64)
    (last : qs.getLast? ≠ some .deadRex) (ends : qs = [] → pend = none) :
    scanBytes m pend (qs.map Prefix.byte ++ c) = (flushRex pend ++ qs, none, c) := by
  induction qs generalizing pend with
  | nil => rw [ends rfl]; exact stop _
  | cons q qs ih =>
    have rest : qs.getLast? ≠ some .deadRex := by
      cases qs with
      | nil => simp
      | cons => rwa [List.getLast?_cons_cons] at last
    have dead' : Prefix.deadRex ∈ qs → m = .bits64 := fun h => dead (List.mem_cons_of_mem _ h)
    rw [List.map_cons, List.cons_append]
    by_cases hq : q = .deadRex
    · subst hq
      obtain rfl := dead (List.mem_cons_self ..)
      rw [scanBytes_rex isRex_deadRex, ih _ dead' rest fun empty => absurd (by simp [empty]) last]
      rfl
    · rw [scanBytes_legacy (isRex_byte hq) (legacyByte_byte hq), ih _ dead' rest fun _ => rfl]
      rfl

/-- REX bytes, ignored ones too, stand in 64-bit mode only, and an ignored one not last (R95). -/
theorem Pfx.wf_iff {m : Mode} {p : Pfx} :
    p.wf m = true ↔ (.deadRex ∈ p.bytes → m = .bits64) ∧ (p.rex = true → m = .bits64) ∧
      (p.rex = false → p.bytes.getLast? ≠ some .deadRex) := by
  simp only [Pfx.wf, Bool.and_eq_true, Bool.or_eq_true, decide_eq_true_eq, Bool.not_eq_true',
    List.contains_eq_mem, decide_eq_false_iff_not]
  cases p.rex <;> by_cases m64 : m = .bits64 <;> simp [m64]

/-- What stands before the opcode is scanned back as it was written (R90, R91, R95). -/
theorem scanBytes_write {m : Mode} {p : Pfx} (wf : p.wf m = true) (w r x b : Bool) {c : List Byte}
    (stop : ∀ q, scanBytes m q c = ([], q, c)) :
    scanBytes m none (p.write w r x b ++ c) =
      (p.bytes, if p.rex then some (rexBits w r x b) else none, c) := by
  obtain ⟨dead, rex, last⟩ := Pfx.wf_iff.mp wf
  rw [Pfx.write]
  cases hrex : p.rex
  · rw [if_neg Bool.false_ne_true, List.append_nil]
    exact scanBytes_map p.bytes none stop dead (last hrex) fun _ => rfl
  · obtain rfl := rex hrex
    rw [if_pos rfl, List.append_assoc]
    exact scanBytes_map_rex p.bytes none w r x b stop

/-- Bytes of R91 alone are scanned to the end. -/
theorem scanBytes_all {m : Mode} {bs : List Byte} (h : ∀ b ∈ bs, stopsScan m b = false)
    (pend : Option (BitVec 4)) : ∃ ps rex, scanBytes m pend bs = (ps, rex, []) := by
  induction bs generalizing pend with
  | nil => exact ⟨[], pend, rfl⟩
  | cons b bs ih =>
    rw [List.forall_mem_cons] at h
    cases rex : isRex m b
    · obtain ⟨x, hx⟩ : ∃ x, legacyByte b = some x := by
        rw [← Option.ne_none_iff_exists']
        intro none
        simp [stopsScan, rex, none] at h
      obtain ⟨ps, q, rest⟩ := ih h.2 none
      exact ⟨_, q, by rw [scanBytes_legacy rex hx, rest]⟩
    · obtain ⟨ps, q, rest⟩ := ih h.2 (some (b.extractLsb' 0 4))
      exact ⟨_, q, by rw [scanBytes_rex rex, rest]⟩

theorem stopsScan_write {m : Mode} {p : Pfx} (wf : p.wf m = true) (w r x b : Bool) :
    ∀ y ∈ p.write w r x b, stopsScan m y = false := by
  obtain ⟨dead, rex, -⟩ := Pfx.wf_iff.mp wf
  intro y hy
  rw [Pfx.write, List.mem_append, List.mem_map] at hy
  rcases hy with ⟨q, hq, rfl⟩ | hy
  · by_cases isDead : q = .deadRex
    · subst isDead
      obtain rfl := dead hq
      rw [stopsScan, isRex_deadRex, Bool.not_true, Bool.false_and]
    · rw [stopsScan, legacyByte_byte isDead, Option.isNone_some, Bool.and_false]
  · split at hy
    · rename_i hrex
      obtain rfl := rex hrex
      obtain rfl : y = rexByte w r x b := List.mem_singleton.mp hy
      rw [stopsScan, isRex_rexByte, Bool.not_true, Bool.false_and]
    · cases hy

/-! ### The opcode -/

/-- The decoding procedure from the first byte that is none of R91 (R128): VEX, EVEX or legacy. -/
def decodeOpcode (m : Mode) (a : ASize) (p : Pfx) (rex : BitVec 4) (t : List Byte) :
    Except DecErr (Instr × List Byte) :=
  match t with
  | 0xC4#8 :: u =>
    match u with
    | [] => .error .short
    | v1 :: _ =>
      if m = .bits64 ∨ v1.extractLsb' 6 2 = 3 then decodeVex m a p u else .error .outside
  | 0x62#8 :: u =>
    match u with
    | [] => .error .short
    | p0 :: _ =>
      if m = .bits64 ∨ p0.extractLsb' 6 2 = 3 then decodeEvex m a p u else .error .outside
  | _ => decodeLegacy a p rex t

theorem decode_of_scan {m : Mode} {csD : Bool} {bs t : List Byte} {ps : List Prefix} {rex : Option (BitVec 4)}
    (h : scanBytes m none bs = (ps, rex, t)) :
    decode m csD bs =
      decodeOpcode m (addrSize m csD ⟨ps, rex.isSome⟩) ⟨ps, rex.isSome⟩ (rex.getD 0) t := by
  rw [decode, h]
  rfl

theorem decodeOpcode_nil (m : Mode) (a : ASize) (p : Pfx) (rex : BitVec 4) :
    decodeOpcode m a p rex [] = .error .short := rfl

theorem decodeOpcode_legacy {m : Mode} {a : ASize} {p : Pfx} {rex : BitVec 4} {b : Byte}
    (vex : b ≠ 0xC4) (evex : b ≠ 0x62) (t : List Byte) :
    decodeOpcode m a p rex (b :: t) = decodeLegacy a p rex (b :: t) := by
  unfold decodeOpcode
  split
  · rename_i h; cases h; exact absurd rfl vex
  · rename_i h; cases h; exact absurd rfl evex
  · rfl

theorem decodeOpcode_vex {m : Mode} {a : ASize} {p : Pfx} {rex : BitVec 4} {v1 : Byte}
    (h : m = .bits64 ∨ v1.extractLsb' 6 2 = 3) (t : List Byte) :
    decodeOpcode m a p rex (0xC4 :: v1 :: t) = decodeVex m a p (v1 :: t) := if_pos h

theorem decodeOpcode_evex {m : Mode} {a : ASize} {p : Pfx} {rex : BitVec 4} {p0 : Byte}
    (h : m = .bits64 ∨ p0.extractLsb' 6 2 = 3) (t : List Byte) :
    decodeOpcode m a p rex (0x62 :: p0 :: t) = decodeEvex m a p (p0 :: t) := if_pos h

/-- Decoding reads an instruction where the opcode is read after the bytes before it. -/
theorem decode_reads {m : Mode} {csD : Bool} {p : Pfx} (wf : p.wf m = true) (w r x b : Bool)
    {q : Byte} {cs : List Byte} {i : Instr} (stop : stopsScan m q = true)
    (h : Reads (decodeOpcode m (addrSize m csD p) p (if p.rex then rexBits w r x b else 0)) (q :: cs) i) :
    Reads (decode m csD) (p.write w r x b ++ q :: cs) i := by
  have scan (t : List Byte) (stop : ∀ q, scanBytes m q t = ([], q, t)) :
      decode m csD (p.write w r x b ++ t) =
        decodeOpcode m (addrSize m csD p) p (if p.rex then rexBits w r x b else 0) t := by
    rw [decode_of_scan (scanBytes_write wf w r x b stop)]
    obtain ⟨bytes, rex⟩ := p
    cases rex <;> rfl
  refine ⟨fun rest => ?_, fun n hn => ?_⟩
  · rw [List.append_assoc, List.cons_append, scan _ fun _ => scanBytes_stop stop _]
    exact h.all rest
  · rw [List.length_append] at hn
    rcases Nat.lt_or_ge n (p.write w r x b).length with lt | ge
    · obtain ⟨ps, rex, all⟩ := scanBytes_all (bs := (p.write w r x b).take n)
        (fun y hy => stopsScan_write wf w r x b y (List.mem_of_mem_take hy)) none
      rw [List.take_append_of_le_length (Nat.le_of_lt lt), decode_of_scan all, decodeOpcode_nil]
    · rw [List.take_append, List.take_of_length_le ge, scan]
      · exact h.part _ (by omega)
      · cases n - (p.write w r x b).length with
        | zero => exact fun _ => rfl
        | succ k => exact fun _ => scanBytes_stop stop _

end Sys2Proof
end

section
/-! PROOFS. The three formats (30_encoding.md sections 3 to 6): the row is found by its opcode, and the operands
are read back; decoding gives back every well-formed instruction. -/

namespace Sys2Proof

/-! ### Finding a row -/

theorem find?_eq_of_unique {α : Type} {l : List α} {q : α → Bool} {a : α} (mem : a ∈ l) (ha : q a = true)
    (unique : ∀ b ∈ l, q b = true → b = a) : l.find? q = some a := by
  cases h : l.find? q with
  | none => exact absurd ha (by simpa using List.find?_eq_none.mp h a mem)
  | some b => rw [unique b (List.mem_of_find?_eq_some h) (List.find?_some h)]

theorem LOp.mem_all (l : LOp) : l ∈ LOp.all := by cases l <;> decide

theorem VOp.mem_all (v : VOp) : v ∈ VOp.all := by cases v <;> decide

theorem EvexSel.mem_all (e : EvexSel) : e ∈ EvexSel.all := by
  cases e with
  | gen e => cases e <;> decide
  | mem e => cases e <;> decide
  | reg e => cases e <;> decide

/-- Whether the bytes 66, F3, F2 suit a row, from their presence (R94). -/
def Mand.okFor (k : Mand) (osize rep repne : Bool) : Bool :=
  match k with
  | .np => !osize && !rep && !repne
  | .npBut66 => !rep && !repne
  | .free => true
  | .p66 => osize && !rep && !repne
  | .pF3 => rep && !osize && !repne
  | .pF2 => repne && !osize && !rep

theorem Mand.ok_eq (k : Mand) (p : Pfx) : k.ok p = k.okFor (p.has .osize) (p.has .rep) (p.has .repne) := by
  cases k <;> rfl

/-- Whether a required W suits a bit W (R95, R111, R117). -/
def wSuits (w : Option Bool) (bit : Bool) : Bool := w.isNone || w = some bit

/-- Whether a `mod` column allows a register or a memory operand (R106). -/
def RmForm.okFor (f : RmForm) (isReg : Bool) : Bool :=
  match f with
  | .any => true
  | .mem => !isReg
  | .reg => isReg

theorem RmForm.ok_eq (f : RmForm) (md : Byte) : f.ok md = f.okFor (decide (modField md = 3)) := by
  cases f <;> simp [RmForm.ok, RmForm.okFor]

theorem LOp.row_unique : ∀ l ∈ LOp.all, ∀ l' ∈ LOp.all, ∀ osize rep repne w : Bool,
    l.row.opc = l'.row.opc → l.row.mand.okFor osize rep repne = true →
    l'.row.mand.okFor osize rep repne = true → wSuits l.row.w w = true → wSuits l'.row.w w = true →
    l = l' := by decide +kernel

theorem VOp.row_unique : ∀ v ∈ VOp.all, ∀ v' ∈ VOp.all,
    v.row.map = v'.row.map → v.row.op = v'.row.op → v = v' := by decide +kernel

theorem EvexSel.row_unique : ∀ e ∈ EvexSel.all, ∀ e' ∈ EvexSel.all,
    e.row.map = e'.row.map → e.row.op = e'.row.op → ∀ w isReg : Bool,
    wSuits e.row.w w = true → wSuits e'.row.w w = true →
    e.row.rm.okFor isReg = true → e'.row.rm.okFor isReg = true → e = e' := by decide +kernel

theorem LegacyRow.opens_iff {r : LegacyRow} {opc : List Byte} {p : Pfx} {w : Bool} :
    r.opens opc p w = true ↔ r.opc = opc ∧ r.mand.ok p = true ∧ wSuits r.w w = true := by
  rw [LegacyRow.opens, Bool.and_eq_true, Bool.and_eq_true, decide_eq_true_eq, and_assoc]
  rfl

theorem LegacyRow.opens_of_suits {r : LegacyRow} {opc : List Byte} {p : Pfx} {w : Bool} {md : Option Byte}
    (h : r.suits opc p w md = true) : r.opens opc p w = true :=
  (Bool.and_eq_true_iff.mp h).1

/-- The legacy row that suits is the one that is found (R128). -/
theorem LOp.find_suits {l : LOp} {opc : List Byte} {p : Pfx} {w : Bool} {md : Option Byte}
    (h : l.row.suits opc p w md = true) :
    LOp.all.find? (fun l => l.row.suits opc p w md) = some l := by
  refine find?_eq_of_unique l.mem_all h fun l' mem h' => ?_
  obtain ⟨opc, mand, ww⟩ := LegacyRow.opens_iff.mp (LegacyRow.opens_of_suits h)
  obtain ⟨opc', mand', ww'⟩ := LegacyRow.opens_iff.mp (LegacyRow.opens_of_suits h')
  rw [Mand.ok_eq] at mand mand'
  exact LOp.row_unique l' mem l l.mem_all _ _ _ w (opc'.trans opc.symm) mand' mand ww' ww

theorem VexRow.suits_iff {r : VexRow} {v1 v2 op : Byte} :
    r.suits v1 v2 op = true ↔ v1.extractLsb' 0 5 = r.map ∧ v2.extractLsb' 0 2 = 1 ∧ op = r.op ∧
      wSuits r.w (v2.getLsbD 7) = true := by
  rw [VexRow.suits]
  simp only [Bool.and_eq_true, decide_eq_true_eq, and_assoc]
  rfl

/-- The VEX row that suits is the one that is found (R111, R128). -/
theorem VOp.find_suits {v : VOp} {v1 v2 op : Byte} {l : Bool} (h : v.row.suits v1 v2 op = true)
    (len : v.hasLength l = true) :
    VOp.all.find? (fun v => v.row.suits v1 v2 op && v.hasLength l) = some v := by
  refine find?_eq_of_unique v.mem_all (Bool.and_eq_true_iff.mpr ⟨h, len⟩) fun v' mem h' => ?_
  obtain ⟨map, -, opc, -⟩ := VexRow.suits_iff.mp h
  obtain ⟨map', -, opc', -⟩ := VexRow.suits_iff.mp (Bool.and_eq_true_iff.mp h').1
  exact VOp.row_unique v' mem v v.mem_all (map'.symm.trans map) (opc'.symm.trans opc)

theorem EvexRow.opens_iff {r : EvexRow} {p0 p1 op : Byte} :
    r.opens p0 p1 op = true ↔ p0.extractLsb' 0 2 = r.map ∧ p1.extractLsb' 0 2 = 1 ∧ op = r.op ∧
      wSuits r.w (p1.getLsbD 7) = true := by
  rw [EvexRow.opens]
  simp only [Bool.and_eq_true, decide_eq_true_eq, and_assoc]
  rfl

/-- The EVEX row that suits is the one that is found (R117, R128). -/
theorem EvexSel.find_suits {e : EvexSel} {p0 p1 op md : Byte} (h : e.row.suits p0 p1 op md = true) :
    EvexSel.all.find? (fun e => e.row.suits p0 p1 op md) = some e := by
  refine find?_eq_of_unique e.mem_all h fun e' mem h' => ?_
  obtain ⟨opens, form⟩ := Bool.and_eq_true_iff.mp h
  obtain ⟨opens', form'⟩ := Bool.and_eq_true_iff.mp h'
  obtain ⟨map, -, opc, w⟩ := EvexRow.opens_iff.mp opens
  obtain ⟨map', -, opc', w'⟩ := EvexRow.opens_iff.mp opens'
  rw [RmForm.ok_eq] at form form'
  exact EvexSel.row_unique e' mem e e.mem_all (map'.symm.trans map) (opc'.symm.trans opc) _ _ w' w form' form

/-! ### Legacy -/

theorem takeOpcode_reads (l : LOp) : Reads takeOpcode l.row.opc l.row.opc := by
  have two (b : Byte) (h : ¬(b = 0x38 ∨ b = 0x3A ∨ b = 0x01)) : Reads takeOpcode [0x0F, b] [0x0F, b] := by
    refine .cons rfl (fun _ => rfl) (.cons rfl (fun x => ?_) (.nil fun _ => rfl))
    exact if_neg h
  have three (b c : Byte) (h : b = 0x38 ∨ b = 0x3A ∨ b = 0x01) :
      Reads takeOpcode [0x0F, b, c] [0x0F, b, c] := by
    refine .cons rfl (fun _ => rfl) (.cons rfl (fun x => rfl) (.cons ?_ (fun x => ?_) (.nil fun _ => rfl)))
    · exact if_pos h
    · exact if_pos h
  cases l with
  | cldemote | tpause | umonitor | umwait | wbnoinvd => exact two _ (by decide)
  | _ => exact three _ _ (by decide)

/-- The operands and the immediate of a legacy row, after its ModRM byte. -/
def legacyOperands (a : ASize) (p : Pfx) (rex : BitVec 4) (l : LOp) (md : Byte) : Reader Instr := fun t => do
  let (rm, t) ← takeRm a false (rex.getLsbD 1) (rex.getLsbD 0) md t
  let (i, t) ← takeImm l.row.imm t
  match l.make p (num4 (rex.getLsbD 2) (regField md)) rm i with
  | some x => .ok (x, t)
  | none => .error .outside

/-- A legacy instruction after its opcode. -/
def legacyRest (a : ASize) (p : Pfx) (rex : BitVec 4) (opc : List Byte) : Reader Instr := fun t =>
  if t = [] ∧ LOp.all.any (fun l => l.row.opens opc p (rex.getLsbD 3) && l.row.rm.isSome) then
    .error .short
  else match LOp.all.find? (fun l => l.row.suits opc p (rex.getLsbD 3) t.head?) with
    | none => .error .outside
    | some l =>
      match l.row.rm, t with
      | some _, md :: u => legacyOperands a p rex l md u
      | _, _ =>
        match l.make p 0 (.reg 0) 0 with
        | some x => .ok (x, t)
        | none => .error .outside

theorem decodeLegacy_eq (a : ASize) (p : Pfx) (rex : BitVec 4) (bs : List Byte) :
    decodeLegacy a p rex bs = takeOpcode bs >>= fun r => legacyRest a p rex r.1 r.2 := rfl

section
variable {a : ASize} {p : Pfx} {rex : BitVec 4} {l : LOp} {reg : BitVec 4} {rm : Rm} {imm : Byte} {i : Instr}

/-- What a row with a digit makes does not depend on `ModRM.reg`. -/
theorem LOp.make_digit (h : l.row.digit.isSome = true) (reg' : BitVec 4) :
    l.make p reg rm imm = l.make p reg' rm imm := by
  cases l with
  | cldemote | tpause | umonitor | umwait => cases rm <;> rfl
  | _ => cases h

theorem LOp.make_noRm (h : l.row.rm = none) : l.make p reg rm imm = l.make p 0 (.reg 0) 0 := by
  cases l with
  | pconfig | wbnoinvd => rfl
  | _ => cases h

theorem LOp.imm_noRm (h : l.row.rm = none) : l.row.imm = false := by
  cases l with
  | pconfig | wbnoinvd => rfl
  | _ => cases h

/-- No row with ModRM has the opcode of one without. -/
theorem LOp.opc_noRm : ∀ l ∈ LOp.all, ∀ l' ∈ LOp.all, l.row.rm = none → l'.row.opc = l.row.opc →
    l'.row.rm = none := by decide +kernel

theorem LOp.holds_of_make (make : l.make p reg rm imm = some i) {f : RmForm} (h : l.row.rm = some f) :
    f.holds rm = true := by
  cases l with
  | gf2p8affineinvqb | gf2p8affineqb | gf2p8mulb | tpause | umonitor | umwait => cases h; rfl
  | cldemote | movdiri32 | movdiri64 | movdir64b =>
    cases h
    cases rm with
    | reg r => cases make
    | mem m => rfl
  | pconfig | wbnoinvd => cases h

theorem legacyRest_nil {opc : List Byte} (opens : l.row.opens opc p (rex.getLsbD 3) = true)
    (some : l.row.rm.isSome = true) : legacyRest a p rex opc [] = .error .short :=
  if_pos ⟨rfl, List.any_eq_true.mpr ⟨l, l.mem_all, by rw [opens, some]; rfl⟩⟩

theorem legacyRest_cons {opc : List Byte} {md : Byte} {f : RmForm}
    (suits : l.row.suits opc p (rex.getLsbD 3) (some md) = true) (some : l.row.rm = some f) (t : List Byte) :
    legacyRest a p rex opc (md :: t) = legacyOperands a p rex l md t := by
  rw [legacyRest, if_neg (by simp), List.head?_cons, LOp.find_suits suits]
  simp only [some]

theorem legacyRest_noRm {opc : List Byte} (opens : l.row.opens opc p (rex.getLsbD 3) = true)
    (noRm : l.row.rm = none) (make : l.make p 0 (.reg 0) 0 = some i) (t : List Byte) :
    legacyRest a p rex opc t = .ok (i, t) := by
  have suits : l.row.suits opc p (rex.getLsbD 3) t.head? = true := by
    simp only [LegacyRow.suits, opens, noRm, Bool.true_and]
  have others : LOp.all.any (fun l => l.row.opens opc p (rex.getLsbD 3) && l.row.rm.isSome) = false := by
    rw [List.any_eq_false]
    intro l' mem both
    obtain ⟨opens', some⟩ := Bool.and_eq_true_iff.mp both
    have same := (LegacyRow.opens_iff.mp opens').1.trans (LegacyRow.opens_iff.mp opens).1.symm
    rw [LOp.opc_noRm l l.mem_all l' mem noRm same] at some
    cases some
  rw [legacyRest, if_neg (fun both => Bool.eq_false_iff.mp others both.2), LOp.find_suits suits]
  simp only [noRm, make]

/-- The operands of a legacy row are read back. -/
theorem legacyOperands_reads {ext : Bool} {top : Nat} (make : l.make p reg rm imm = some i)
    (wf : rm.wf a ext top = true) (le : top ≤ 16) (immWf : (l.row.imm || decide (imm = 0)) = true)
    (bitR : rex.getLsbD 2 = reg.getLsbD 3) (bitX : rex.getLsbD 1 = rm.extX) (bitB : rex.getLsbD 0 = rm.extB) :
    Reads (legacyOperands a p rex l (rm.modRm (l.row.digit.getD (low3 reg))))
      (rm.after ++ immBytes l.row.imm imm) i := by
  have made : l.make p (num4 (rex.getLsbD 2) (l.row.digit.getD (low3 reg))) rm imm = some i := by
    cases digit : l.row.digit with
    | none => rw [Option.getD_none, bitR, num4_low3, make]
    | some d => rw [LOp.make_digit (by rw [digit]; rfl) reg, make]
  have read := takeRm_reads (l.row.digit.getD (low3 reg)) wf (Rm.high_of_wf wf le)
  rw [← bitX, ← bitB] at read
  refine read.bind (fun rm t => takeImm l.row.imm t >>= fun q =>
    match l.make p (num4 (rex.getLsbD 2) (l.row.digit.getD (low3 reg))) rm q.1 with
    | some x => .ok (x, q.2)
    | none => .error .outside) (fun x => ?_) ?_
  · rw [legacyOperands, Rm.regField_modRm]
  · refine (takeImm_reads immWf).last (fun imm t =>
      match l.make p (num4 (rex.getLsbD 2) (l.row.digit.getD (low3 reg))) rm imm with
      | some x => .ok (x, t)
      | none => .error .outside) (fun _ => rfl) fun x => ?_
    simp only [made]

/-- ModRM and what belongs to it, on a row that has it. -/
def LegacyRow.operandBytes (r : LegacyRow) (reg : BitVec 4) (rm : Option Rm) : List Byte :=
  match rm with
  | some o => o.bytes (r.digit.getD (low3 reg))
  | none => []

theorem Form.bytes_legacy (r : LegacyRow) (p : Pfx) (reg : BitVec 4) (rm : Option Rm) (imm : Byte) :
    (Form.legacy r p reg rm imm).bytes =
      p.write (decide (r.w = some true)) (reg.getLsbD 3) ((rm.map Rm.extX).getD false)
        ((rm.map Rm.extB).getD false) ++ (r.opc ++ (r.operandBytes reg rm ++ immBytes r.imm imm)) := by
  rw [← List.append_assoc, ← List.append_assoc]
  rfl

/-- A legacy instruction from its opcode on is read back (R94 to R97, R106). -/
theorem decodeLegacy_reads {ext : Bool} {top : Nat} (make : l.make p reg rm imm = some i)
    (mand : l.row.mand.ok p = true) (w : wSuits l.row.w (rex.getLsbD 3) = true)
    (immWf : (l.row.imm || decide (imm = 0)) = true) (le : top ≤ 16)
    (operand : l.row.rm.isSome = true → rm.wf a ext top = true ∧ rex.getLsbD 2 = reg.getLsbD 3 ∧
      rex.getLsbD 1 = rm.extX ∧ rex.getLsbD 0 = rm.extB) :
    Reads (decodeLegacy a p rex)
      (l.row.opc ++ (l.row.operandBytes reg (l.row.rm.map fun _ => rm) ++ immBytes l.row.imm imm)) i := by
  have opens : l.row.opens l.row.opc p (rex.getLsbD 3) = true := LegacyRow.opens_iff.mpr ⟨rfl, mand, w⟩
  refine (takeOpcode_reads l).bind (legacyRest a p rex) (decodeLegacy_eq a p rex) ?_
  cases has : l.row.rm with
  | none =>
    rw [LOp.imm_noRm has]
    exact .nil (legacyRest_noRm opens has (LOp.make_noRm has ▸ make))
  | some f =>
    obtain ⟨wf, bitR, bitX, bitB⟩ := operand (by rw [has]; rfl)
    rw [Option.map_some, LegacyRow.operandBytes, Rm.bytes_eq, List.cons_append]
    have suits : l.row.suits l.row.opc p (rex.getLsbD 3)
        (some (rm.modRm (l.row.digit.getD (low3 reg)))) = true := by
      simp only [LegacyRow.suits, opens, has, RmForm.ok_modRm, LOp.holds_of_make make has,
        Rm.regField_modRm, Bool.true_and]
      cases l.row.digit <;> simp
    exact .cons (legacyRest_nil opens (by rw [has]; rfl)) (legacyRest_cons suits has)
      (legacyOperands_reads make wf le immWf bitR bitX bitB)

end

theorem getLsbD_rexBits : ∀ w r x b : Bool, (rexBits w r x b).getLsbD 3 = w ∧
    (rexBits w r x b).getLsbD 2 = r ∧ (rexBits w r x b).getLsbD 1 = x ∧ (rexBits w r x b).getLsbD 0 = b := by
  decide

theorem wSuits_required (w : Option Bool) : wSuits w (decide (w = some true)) = true := by
  cases w with
  | none => rfl
  | some w => cases w <;> rfl

/-- A W that no row requires is written as 0. -/
theorem wSuits_getD (w : Option Bool) : wSuits w (w.getD false) = true := by
  cases w <;> simp [wSuits]

theorem stopsScan_opcode (m : Mode) :
    stopsScan m 0x0F = true ∧ stopsScan m 0xC4 = true ∧ stopsScan m 0x62 = true := by cases m <;> decide

theorem LOp.opc_cons (l : LOp) : ∃ t, l.row.opc = 0x0F :: t := by cases l <;> exact ⟨_, rfl⟩

/-- From the opcode on, a legacy form is read by `decodeLegacy`. -/
theorem decodeOpcode_reads_legacy {m : Mode} {a : ASize} {p : Pfx} {rex : BitVec 4} {cs : List Byte} {i : Instr}
    (h : Reads (decodeLegacy a p rex) (0x0F :: cs) i) :
    Reads (decodeOpcode m a p rex) (0x0F :: cs) i := by
  have legacy (t : List Byte) : decodeOpcode m a p rex (0x0F :: t) = decodeLegacy a p rex (0x0F :: t) :=
    decodeOpcode_legacy (by decide) (by decide) t
  refine ⟨fun rest => (legacy _).trans (h.all rest), fun n hn => ?_⟩
  cases n with
  | zero => rfl
  | succ n => exact (legacy _).trans (h.part (n + 1) hn)

/-- The bits of the REX byte of an instruction, and 0 where it has none (R95). -/
def Pfx.rexOf (p : Pfx) (w r x b : Bool) : BitVec 4 := if p.rex then rexBits w r x b else 0

/-- The extension bits are where they are read, if none is set without a REX byte. -/
theorem Pfx.getLsbD_rexOf {p : Pfx} {w r x b : Bool}
    (h : p.rex = false → w = false ∧ r = false ∧ x = false ∧ b = false) :
    (p.rexOf w r x b).getLsbD 3 = w ∧ (p.rexOf w r x b).getLsbD 2 = r ∧
      (p.rexOf w r x b).getLsbD 1 = x ∧ (p.rexOf w r x b).getLsbD 0 = b := by
  rw [Pfx.rexOf]
  cases hrex : p.rex
  · obtain ⟨rfl, rfl, rfl, rfl⟩ := h hrex
    exact ⟨rfl, rfl, rfl, rfl⟩
  · exact getLsbD_rexBits w r x b

/-- Legacy instructions are read back. -/
theorem decode_reads_legacy {m : Mode} {csD : Bool} {l : LOp} {p : Pfx} {reg : BitVec 4} {rm : Rm} {imm : Byte}
    {i : Instr} (make : l.make p reg rm imm = some i)
    (wf : (Form.legacy l.row p reg (l.row.rm.map fun _ => rm) imm).wf m csD = true) :
    Reads (decode m csD) (Form.legacy l.row p reg (l.row.rm.map fun _ => rm) imm).bytes i := by
  simp only [Form.wf, Bool.and_eq_true, decide_eq_true_eq] at wf
  obtain ⟨⟨⟨⟨⟨pfx, mand⟩, w⟩, hreg⟩, hrm⟩, immWf⟩ := wf
  have small : p.rex = false → decide (l.row.w = some true) = false ∧ reg.getLsbD 3 = false := fun no => by
    rw [no] at w hreg
    exact ⟨by simpa using w, getLsbD_three_of_lt_eight reg hreg⟩
  rw [Form.bytes_legacy]
  obtain ⟨opc, hopc⟩ := l.opc_cons
  rw [hopc, List.cons_append]
  refine decode_reads pfx _ _ _ _ (stopsScan_opcode m).1 (decodeOpcode_reads_legacy ?_)
  rw [← List.cons_append, ← hopc]
  change Reads (decodeLegacy _ p (p.rexOf _ _ _ _)) _ _
  cases has : l.row.rm with
  | none =>
    obtain ⟨bitW, bits⟩ := Pfx.getLsbD_rexOf (p := p) (w := decide (l.row.w = some true)) (r := reg.getLsbD 3)
      (x := false) (b := false) fun no => ⟨(small no).1, (small no).2, rfl, rfl⟩
    have read := decodeLegacy_reads (a := addrSize m csD p) (ext := false) (top := 8) make mand
      (by rw [bitW]; exact wSuits_required _) immWf (by omega) fun some => by rw [has] at some; cases some
    rw [has] at read
    exact read
  | some f =>
    rw [has] at hrm
    obtain ⟨bitW, bits⟩ := Pfx.getLsbD_rexOf (p := p) (w := decide (l.row.w = some true)) (r := reg.getLsbD 3)
      (x := rm.extX) (b := rm.extB) fun no => by
        have hrm : rm.wf (addrSize m csD p) p.rex (if p.rex then 16 else 8) = true := hrm
        rw [no] at hrm
        exact ⟨(small no).1, (small no).2, Rm.ext_of_wf hrm⟩
    have read := decodeLegacy_reads (a := addrSize m csD p) make mand (by rw [bitW]; exact wSuits_required _) immWf
      (show (if p.rex then 16 else 8) ≤ 16 by split <;> omega) fun _ => ⟨hrm, bits⟩
    rw [has] at read
    exact read

/-! ### VEX -/

/-- The first byte after C4 (R109): the inverted R, X and B, and the map. -/
def vexByte1 (r x b : Bool) (map : BitVec 5) : Byte :=
  BitVec.ofBool (!r) ++ BitVec.ofBool (!x) ++ BitVec.ofBool (!b) ++ map

/-- The second byte after C4 (R110 to R112): W, the inverted `vvvv`, L, and `pp` = 66. -/
def vexByte2 (w : Bool) (vvvv : BitVec 4) (l : Bool) : Byte :=
  BitVec.ofBool w ++ ~~~vvvv ++ BitVec.ofBool l ++ 1#2

theorem vexByte1_fields : ∀ (r x b : Bool) (map : BitVec 5),
    (vexByte1 r x b map).extractLsb' 0 5 = map ∧ (!(vexByte1 r x b map).getLsbD 7) = r ∧
    (!(vexByte1 r x b map).getLsbD 6) = x ∧ (!(vexByte1 r x b map).getLsbD 5) = b ∧
    ((vexByte1 false false b map).extractLsb' 6 2 = 3) := by decide +kernel

theorem vexByte2_fields : ∀ (w : Bool) (vvvv : BitVec 4) (l : Bool),
    (vexByte2 w vvvv l).extractLsb' 0 2 = 1 ∧ (vexByte2 w vvvv l).getLsbD 7 = w ∧
    (~~~(vexByte2 w vvvv l).extractLsb' 3 4) = vvvv ∧ (vexByte2 w vvvv l).getLsbD 2 = l := by decide +kernel

theorem Form.bytes_vex (r : VexRow) (l : Bool) (o : VexOps) (imm : Byte) :
    (Form.vex r l o imm).bytes = o.pfx.write false false false false ++
      (0xC4 :: vexByte1 (o.reg.getLsbD 3) o.rm.extX o.rm.extB r.map ::
        vexByte2 (r.w.getD false) o.vvvv l :: r.op ::
        o.rm.modRm (low3 o.reg) :: (o.rm.after ++ immBytes r.imm imm)) := by
  rw [Form.bytes, Rm.bytes_eq]
  simp only [List.append_assoc, List.cons_append, List.nil_append]
  rfl

/-- The operands and the immediate of a VEX row, after its ModRM byte. -/
def vexOperands (m : Mode) (a : ASize) (p : Pfx) (v : VOp) (v1 v2 md : Byte) : Reader Instr := fun t => do
  let (rm, t) ← takeRm a false (!v1.getLsbD 6) (m = .bits64 && !v1.getLsbD 5) md t
  let (i, t) ← takeImm v.row.imm t
  let o : VexOps :=
    { pfx := p, reg := num4 (!v1.getLsbD 7) (regField md),
      vvvv := if m = .bits64 then ~~~v2.extractLsb' 3 4 else ~~~v2.extractLsb' 3 4 &&& 7, rm := rm }
  match v.make (v2.getLsbD 2) o i with
  | some x => .ok (x, t)
  | none => .error .outside

section
variable {m : Mode} {a : ASize} {p : Pfx} {v : VOp} {v1 v2 op : Byte}
  (suits : v.row.suits v1 v2 op = true) (len : v.hasLength (v2.getLsbD 2) = true)
include suits len

theorem decodeVex_nil : decodeVex m a p [v1, v2, op] = .error .short := by
  simp only [decodeVex, VOp.find_suits suits len]

theorem decodeVex_cons (md : Byte) (t : List Byte) :
    decodeVex m a p (v1 :: v2 :: op :: md :: t) = vexOperands m a p v v1 v2 md t := by
  simp only [decodeVex, VOp.find_suits suits len]
  rfl

end

theorem and_seven_of_lt : ∀ v : BitVec 4, v.toNat < 8 → v &&& 7 = v := by decide

theorem VOp.hasLength_of_make {v : VOp} {l : Bool} {o : VexOps} {imm : Byte} {i : Instr}
    (h : v.make l o imm = some i) : v.hasLength l = true := by
  cases v <;> cases l <;> cases h <;> rfl

/-- The operands of a VEX row are read back. -/
theorem vexOperands_reads {m : Mode} {a : ASize} {v : VOp} {l w : Bool} {o : VexOps} {imm : Byte} {i : Instr}
    (map : BitVec 5) (make : v.make l o imm = some i)
    (vvvv : o.vvvv.toNat < if m = .bits64 then 16 else 8)
    (wf : o.rm.wf a (m = .bits64) (if m = .bits64 then 16 else 8) = true)
    (immWf : (v.row.imm || decide (imm = 0)) = true) :
    Reads (vexOperands m a o.pfx v (vexByte1 (o.reg.getLsbD 3) o.rm.extX o.rm.extB map) (vexByte2 w o.vvvv l)
      (o.rm.modRm (low3 o.reg))) (o.rm.after ++ immBytes v.row.imm imm) i := by
  obtain ⟨-, bitR, bitX, bitB, -⟩ := vexByte1_fields (o.reg.getLsbD 3) o.rm.extX o.rm.extB map
  obtain ⟨-, -, field, bitL⟩ := vexByte2_fields w o.vvvv l
  have extB : (decide (m = .bits64) && o.rm.extB) = o.rm.extB := by
    by_cases m64 : m = .bits64
    · simp [m64]
    · simp only [m64, decide_false, if_false] at wf
      simp [m64, (Rm.ext_of_wf wf).2]
  have source : (if m = .bits64 then o.vvvv else o.vvvv &&& 7) = o.vvvv := by
    split <;> rename_i m64
    · rfl
    · exact and_seven_of_lt _ (by simpa [m64] using vvvv)
  have read := takeRm_reads (low3 o.reg) wf (Rm.high_of_wf wf (by split <;> omega))
  refine read.bind (fun rm t => takeImm v.row.imm t >>= fun q =>
    match v.make l { o with rm := rm } q.1 with
    | some x => .ok (x, q.2)
    | none => .error .outside) (fun x => ?_) ?_
  · simp only [vexOperands, bitX, bitB, extB, bitR, field, bitL, source, Rm.regField_modRm, num4_low3]
  · refine (takeImm_reads immWf).last (fun imm t =>
      match v.make l o imm with
      | some x => .ok (x, t)
      | none => .error .outside) (fun _ => rfl) fun x => ?_
    simp only [make]

/-- VEX instructions are read back. -/
theorem decode_reads_vex {m : Mode} {csD : Bool} {v : VOp} {l : Bool} {o : VexOps} {imm : Byte} {i : Instr}
    (make : v.make l o imm = some i) (wf : (Form.vex v.row l o imm).wf m csD = true) :
    Reads (decode m csD) (Form.vex v.row l o imm).bytes i := by
  simp only [Form.wf, Bool.and_eq_true, decide_eq_true_eq] at wf
  obtain ⟨⟨⟨⟨pfx, hreg⟩, hvvvv⟩, hrm⟩, immWf⟩ := wf
  rw [Form.bytes_vex]
  obtain ⟨map, -, -, -, top⟩ := vexByte1_fields (o.reg.getLsbD 3) o.rm.extX o.rm.extB v.row.map
  obtain ⟨pp, bitW, -, bitL⟩ := vexByte2_fields (v.row.w.getD false) o.vvvv l
  have form : m = .bits64 ∨ (vexByte1 (o.reg.getLsbD 3) o.rm.extX o.rm.extB v.row.map).extractLsb' 6 2 = 3 := by
    by_cases m64 : m = .bits64
    · exact .inl m64
    · simp only [m64, decide_false, if_false] at hrm hreg
      rw [getLsbD_three_of_lt_eight _ hreg, (Rm.ext_of_wf hrm).1]
      exact .inr (vexByte1_fields false false o.rm.extB v.row.map).2.2.2.2
  have suits : v.row.suits (vexByte1 (o.reg.getLsbD 3) o.rm.extX o.rm.extB v.row.map)
      (vexByte2 (v.row.w.getD false) o.vvvv l) v.row.op = true :=
    VexRow.suits_iff.mpr ⟨map, pp, rfl, by rw [bitW]; exact wSuits_getD _⟩
  have len : v.hasLength ((vexByte2 (v.row.w.getD false) o.vvvv l).getLsbD 2) = true :=
    bitL.symm ▸ VOp.hasLength_of_make make
  refine decode_reads pfx _ _ _ _ (stopsScan_opcode m).2.1 ?_
  refine .cons rfl (fun _ => rfl) (.cons rfl (decodeOpcode_vex form) (.cons rfl (fun _ => rfl)
    (.cons rfl (fun _ => rfl) (.cons (decodeVex_nil suits len) (decodeVex_cons suits len _) ?_))))
  exact vexOperands_reads v.row.map make hvvvv hrm immWf

/-! ### EVEX -/

/-- P0 (R116, R119): the inverted R, X, B and R', and the map. -/
def evexByte0 (r x b r' : Bool) (map : BitVec 2) : Byte :=
  BitVec.ofBool (!r) ++ BitVec.ofBool (!x) ++ BitVec.ofBool (!b) ++ BitVec.ofBool (!r') ++ 0#2 ++ map

/-- P1 (R116, R117): W, the low bits of the inverted `vvvv`, and `pp` = 66. -/
def evexByte1 (w : Bool) (vvvv : BitVec 5) : Byte :=
  BitVec.ofBool w ++ ~~~vvvv.extractLsb' 0 4 ++ 1#1 ++ 1#2

/-- P2 (R116 to R121): z, L'L, b, the inverted V', and aaa. -/
def evexByte2 (z : Bool) (l : BitVec 2) (b v' : Bool) (aaa : BitVec 3) : Byte :=
  BitVec.ofBool z ++ l ++ BitVec.ofBool b ++ BitVec.ofBool (!v') ++ aaa

theorem evexByte0_fields : ∀ (r x b r' : Bool) (map : BitVec 2),
    (evexByte0 r x b r' map).extractLsb' 0 2 = map ∧ (evexByte0 r x b r' map).extractLsb' 2 2 = 0 ∧
    (!(evexByte0 r x b r' map).getLsbD 7) = r ∧ (!(evexByte0 r x b r' map).getLsbD 6) = x ∧
    (!(evexByte0 r x b r' map).getLsbD 5) = b ∧ (!(evexByte0 r x b r' map).getLsbD 4) = r' := by
  decide +kernel

/-- Without extension bits P0 is plain, and its top bits are 11 (R115, R119). -/
theorem evexByte0_plain : ∀ map : BitVec 2,
    (evexByte0 false false false false map).extractLsb' 6 2 = 3 ∧
    (evexByte0 false false false false map).extractLsb' 4 4 = 15 := by decide

theorem evexByte1_fields : ∀ (w : Bool) (vvvv : BitVec 5),
    (evexByte1 w vvvv).extractLsb' 0 2 = 1 ∧ (evexByte1 w vvvv).getLsbD 2 = true ∧
    (evexByte1 w vvvv).getLsbD 7 = w ∧
    (~~~(BitVec.ofBool (!vvvv.getLsbD 4) ++ (evexByte1 w vvvv).extractLsb' 3 4)) = vvvv := by decide +kernel

theorem evexByte2_fields : ∀ (z : Bool) (l : BitVec 2) (b v' : Bool) (aaa : BitVec 3),
    (evexByte2 z l b v' aaa).extractLsb' 5 2 = l ∧ (evexByte2 z l b v' aaa).getLsbD 7 = z ∧
    (evexByte2 z l b v' aaa).getLsbD 4 = b ∧ (evexByte2 z l b v' aaa).getLsbD 3 = (!v') ∧
    (evexByte2 z l b v' aaa).extractLsb' 0 3 = aaa := by decide +kernel

theorem VL.ofBits_bits (vl : VL) : VL.ofBits vl.bits = some vl := by cases vl <;> rfl

theorem Form.bytes_evex (r : EvexRow) (vl : VL) (o : EvexOps Rm) (imm : Byte) :
    (Form.evex r vl o imm).bytes = o.pfx.write false false false false ++
      (0x62 :: evexByte0 (o.reg.getLsbD 3) o.rm.extX o.rm.extB (o.reg.getLsbD 4) r.map ::
        evexByte1 (r.w.getD false) o.vvvv :: evexByte2 o.z vl.bits o.b (o.vvvv.getLsbD 4) o.aaa :: r.op ::
        o.rm.modRm (low3 o.reg) :: (o.rm.after ++ immBytes r.imm imm)) := by
  rw [Form.bytes, Rm.bytes_eq]
  simp only [List.append_assoc, List.cons_append, List.nil_append]
  rfl

/-- What an EVEX row makes of its bytes, its operand and its immediate. -/
def evexMade (m : Mode) (p : Pfx) (e : EvexSel) (p0 p1 p2 md : Byte) (rm : Rm) (i : Byte) : Reader Instr :=
  fun t =>
    match VL.ofBits (p2.extractLsb' 5 2) with
    | none => .error (.ud t.length)
    | some vl =>
      let o : EvexOps Rm :=
        { pfx := p, reg := num5 (!p0.getLsbD 4) (!p0.getLsbD 7) (regField md),
          vvvv := evexVvvv m e.row p1 p2, rm := rm,
          aaa := p2.extractLsb' 0 3, z := p2.getLsbD 7, b := p2.getLsbD 4 }
      if m ≠ .bits64 ∧ ¬(evexPlain p0 p2 = true ∧ o.vvvv.toNat < 8) then
        if evexUndefined m e.row o then .error (.ud t.length) else .error .evexExt
      else match e.make vl o i with
        | some x => .ok (x, t)
        | none => .error .outside

/-- The operands and the immediate of an EVEX row, after its ModRM byte. -/
def evexOperands (m : Mode) (a : ASize) (p : Pfx) (e : EvexSel) (p0 p1 p2 md : Byte) : Reader Instr := fun t => do
  let (rm, t) ← takeRm a (!p0.getLsbD 6) (!p0.getLsbD 6) (!p0.getLsbD 5) md t
  let (i, t) ← takeImm e.row.imm t
  evexMade m p e p0 p1 p2 md rm i t

section
variable {m : Mode} {a : ASize} {p : Pfx} {e : EvexSel} {p0 p1 p2 op : Byte}

theorem EvexSel.any_opens (opens : e.row.opens p0 p1 op = true) :
    EvexSel.all.any (fun e => e.row.opens p0 p1 op) = true :=
  List.any_eq_true.mpr ⟨e, e.mem_all, opens⟩

theorem decodeEvex_nil (opens : e.row.opens p0 p1 op = true) :
    decodeEvex m a p [p0, p1, p2, op] = .error .short := by
  simp [decodeEvex, EvexSel.any_opens opens]

theorem decodeEvex_cons (fixed : evexFixed p0 p1 = true) {md : Byte}
    (suits : e.row.suits p0 p1 op md = true) (t : List Byte) :
    decodeEvex m a p (p0 :: p1 :: p2 :: op :: md :: t) = evexOperands m a p e p0 p1 p2 md t := by
  have opens := (Bool.and_eq_true_iff.mp suits).1
  simp only [decodeEvex, EvexSel.any_opens opens, EvexSel.find_suits suits, fixed, Bool.not_true,
    Bool.and_false, if_neg Bool.false_ne_true]
  rfl

end

theorem and_of_lt_eight : ∀ v : BitVec 5, v.toNat < 8 → v &&& 0x17 = v := by decide

theorem EvexSel.holds_of_make {e : EvexSel} {vl : VL} {o : EvexOps Rm} {imm : Byte} {i : Instr}
    (h : e.make vl o imm = some i) : e.row.rm.holds o.rm = true := by
  obtain ⟨p, reg, vvvv, rm, aaa, z, b⟩ := o
  cases e with
  | gen e => cases e <;> rfl
  | mem e =>
    cases rm with
    | reg r => cases h
    | mem m => cases e <;> rfl
  | reg e =>
    cases rm with
    | reg r => cases e <;> rfl
    | mem m => cases h

/-- `V':vvvv` is read back (R119). -/
theorem evexVvvv_bytes {m : Mode} (r : EvexRow) {w z b : Bool} {l : BitVec 2} {aaa : BitVec 3} {vvvv : BitVec 5}
    (h : vvvv.toNat < if m = .bits64 then 32 else 8) :
    evexVvvv m r (evexByte1 w vvvv) (evexByte2 z l b (vvvv.getLsbD 4) aaa) = vvvv := by
  obtain ⟨-, -, -, field⟩ := evexByte1_fields w vvvv
  obtain ⟨-, -, -, top, -⟩ := evexByte2_fields z l b (vvvv.getLsbD 4) aaa
  simp only [evexVvvv, top, field]
  split <;> rename_i narrow
  · exact and_of_lt_eight _ (by simpa [narrow.1] using h)
  · rfl

section
variable {m : Mode} {a : ASize} {e : EvexSel} {vl : VL} {o : EvexOps Rm} {imm : Byte} {i : Instr}
  (hreg : o.reg.toNat < if m = .bits64 then 32 else 8)
  (hvvvv : o.vvvv.toNat < if m = .bits64 then 32 else 8)
  (hrm : o.rm.wf a (m = .bits64) (if m = .bits64 then 32 else 8) = true)
include hreg hvvvv hrm

/-- Outside 64-bit mode no extension bit is set (R119, D2). -/
theorem evex_plain (narrow : m ≠ .bits64) : o.reg.getLsbD 3 = false ∧ o.reg.getLsbD 4 = false ∧
    o.rm.extX = false ∧ o.rm.extB = false ∧ o.vvvv.getLsbD 4 = false ∧ o.vvvv.toNat < 8 := by
  simp only [narrow, decide_false, if_false] at hreg hvvvv hrm
  obtain ⟨r4, r3⟩ := getLsbD_of_lt_eight _ hreg
  obtain ⟨x, b⟩ := Rm.ext_of_wf hrm
  exact ⟨r3, r4, x, b, (getLsbD_of_lt_eight _ hvvvv).1, hvvvv⟩

/-- The bytes of an EVEX form give its operands back. -/
theorem evexMade_bytes (make : e.make vl o imm = some i) (map : BitVec 2) (w : Bool) (t : List Byte) :
    evexMade m o.pfx e (evexByte0 (o.reg.getLsbD 3) o.rm.extX o.rm.extB (o.reg.getLsbD 4) map)
      (evexByte1 w o.vvvv) (evexByte2 o.z vl.bits o.b (o.vvvv.getLsbD 4) o.aaa) (o.rm.modRm (low3 o.reg))
      o.rm imm t = .ok (i, t) := by
  obtain ⟨-, -, r3, -, -, r4⟩ := evexByte0_fields (o.reg.getLsbD 3) o.rm.extX o.rm.extB (o.reg.getLsbD 4) map
  obtain ⟨length, z, b, top, aaa⟩ := evexByte2_fields o.z vl.bits o.b (o.vvvv.getLsbD 4) o.aaa
  have allowed : ¬(m ≠ .bits64 ∧ ¬(evexPlain (evexByte0 (o.reg.getLsbD 3) o.rm.extX o.rm.extB (o.reg.getLsbD 4) map)
      (evexByte2 o.z vl.bits o.b (o.vvvv.getLsbD 4) o.aaa) = true ∧ o.vvvv.toNat < 8)) := by
    rintro ⟨narrow, other⟩
    obtain ⟨r3, r4, x, b, v4, v8⟩ := evex_plain hreg hvvvv hrm narrow
    refine other ⟨?_, v8⟩
    rw [evexPlain, top, r3, r4, x, b, v4, (evexByte0_plain map).2]
    rfl
  simp only [evexMade, length, VL.ofBits_bits, r3, r4, z, b, aaa, Rm.regField_modRm, num5_low3,
    evexVvvv_bytes e.row hvvvv, if_neg allowed, make]

/-- The operands of an EVEX row are read back. -/
theorem evexOperands_reads (make : e.make vl o imm = some i) (map : BitVec 2) (w : Bool)
    (immWf : (e.row.imm || decide (imm = 0)) = true) :
    Reads (evexOperands m a o.pfx e (evexByte0 (o.reg.getLsbD 3) o.rm.extX o.rm.extB (o.reg.getLsbD 4) map)
      (evexByte1 w o.vvvv) (evexByte2 o.z vl.bits o.b (o.vvvv.getLsbD 4) o.aaa) (o.rm.modRm (low3 o.reg)))
      (o.rm.after ++ immBytes e.row.imm imm) i := by
  obtain ⟨-, -, -, bitX, bitB, -⟩ :=
    evexByte0_fields (o.reg.getLsbD 3) o.rm.extX o.rm.extB (o.reg.getLsbD 4) map
  have read := takeRm_reads (hi := o.rm.extX) (low3 o.reg) hrm fun r reg => by rw [reg]; rfl
  refine read.bind (fun rm t => takeImm e.row.imm t >>= fun q =>
    evexMade m o.pfx e (evexByte0 (o.reg.getLsbD 3) o.rm.extX o.rm.extB (o.reg.getLsbD 4) map)
      (evexByte1 w o.vvvv) (evexByte2 o.z vl.bits o.b (o.vvvv.getLsbD 4) o.aaa) (o.rm.modRm (low3 o.reg))
      rm q.1 q.2) (fun x => ?_) ?_
  · rw [evexOperands, bitX, bitB]
  · exact (takeImm_reads immWf).last (fun imm => evexMade m o.pfx e _ _ _ _ o.rm imm) (fun _ => rfl)
      (evexMade_bytes hreg hvvvv hrm make map w)

end

/-- EVEX instructions are read back. -/
theorem decode_reads_evex {m : Mode} {csD : Bool} {e : EvexSel} {vl : VL} {o : EvexOps Rm} {imm : Byte} {i : Instr}
    (make : e.make vl o imm = some i) (wf : (Form.evex e.row vl o imm).wf m csD = true) :
    Reads (decode m csD) (Form.evex e.row vl o imm).bytes i := by
  simp only [Form.wf, Bool.and_eq_true, decide_eq_true_eq] at wf
  obtain ⟨⟨⟨⟨⟨pfx, hreg⟩, hvvvv⟩, hrm⟩, holds⟩, immWf⟩ := wf
  obtain ⟨map, zero, -⟩ := evexByte0_fields (o.reg.getLsbD 3) o.rm.extX o.rm.extB (o.reg.getLsbD 4) e.row.map
  obtain ⟨pp, one, bitW, -⟩ := evexByte1_fields (e.row.w.getD false) o.vvvv
  have fixed : evexFixed (evexByte0 (o.reg.getLsbD 3) o.rm.extX o.rm.extB (o.reg.getLsbD 4) e.row.map)
      (evexByte1 (e.row.w.getD false) o.vvvv) = true := by rw [evexFixed, zero, one]; rfl
  have opens : e.row.opens (evexByte0 (o.reg.getLsbD 3) o.rm.extX o.rm.extB (o.reg.getLsbD 4) e.row.map)
      (evexByte1 (e.row.w.getD false) o.vvvv) e.row.op = true :=
    EvexRow.opens_iff.mpr ⟨map, pp, rfl, by rw [bitW]; exact wSuits_getD _⟩
  have suits : e.row.suits (evexByte0 (o.reg.getLsbD 3) o.rm.extX o.rm.extB (o.reg.getLsbD 4) e.row.map)
      (evexByte1 (e.row.w.getD false) o.vvvv) e.row.op (o.rm.modRm (low3 o.reg)) = true := by
    rw [EvexRow.suits, opens, RmForm.ok_modRm, holds]
    rfl
  have form : m = .bits64 ∨ (evexByte0 (o.reg.getLsbD 3) o.rm.extX o.rm.extB (o.reg.getLsbD 4)
      e.row.map).extractLsb' 6 2 = 3 := by
    by_cases m64 : m = .bits64
    · exact .inl m64
    · obtain ⟨r3, r4, x, b, -⟩ := evex_plain hreg hvvvv hrm m64
      rw [r3, r4, x, b]
      exact .inr (evexByte0_plain e.row.map).1
  rw [Form.bytes_evex]
  refine decode_reads pfx _ _ _ _ (stopsScan_opcode m).2.2 ?_
  refine .cons rfl (fun _ => rfl) (.cons rfl (decodeOpcode_evex form) (.cons rfl (fun _ => rfl)
    (.cons rfl (fun _ => rfl) (.cons rfl (fun _ => rfl)
      (.cons (decodeEvex_nil opens) (decodeEvex_cons fixed suits) ?_)))))
  exact evexOperands_reads hreg hvvvv hrm make e.row.map _ immWf

/-- Decoding reads every well-formed instruction back, and needs all of its bytes. -/
theorem decode_encode_reads {m : Mode} {csD : Bool} {i : Instr} (wf : i.form.wf m csD = true) :
    Reads (decode m csD) (encode i) i := by
  rw [encode]
  cases i.listed with
  | legacy l p reg rm imm make form =>
    rw [form] at wf ⊢
    exact decode_reads_legacy make wf
  | vex v l o imm make form =>
    rw [form] at wf ⊢
    exact decode_reads_vex make wf
  | evex e vl o imm make form =>
    rw [form] at wf ⊢
    exact decode_reads_evex make wf

/-- Settles O1. -/
theorem decodeOfEncode : Obligations.DecodeOfEncode := fun _ _ _ rest wf =>
  (decode_encode_reads (Bool.and_eq_true_iff.mp wf).1).all rest

end Sys2Proof
end

section
/-! PROOFS. What is decoded is well formed and takes the bytes its length says (30_encoding.md): the readers
taken apart, each by what an answer of it says. -/

namespace Sys2Proof

open Machine (bind_ok)

/-! ### Bytes before the opcode -/

theorem length_flushRex (pend : Option (BitVec 4)) : (flushRex pend).length = pend.isSome.toNat := by
  cases pend <;> rfl

/-- What a scan answers: as many bytes as it took; REX bytes in 64-bit mode only; an ignored one not last, and
something before the opcode where a REX byte was pending that is not the last (R91, R95). -/
structure Scanned (m : Mode) (pend : Option (BitVec 4)) (bs : List Byte) (ps : List Prefix)
    (rex : Option (BitVec 4)) (t : List Byte) : Prop where
  length : pend.isSome.toNat + bs.length = ps.length + rex.isSome.toNat + t.length
  dead : .deadRex ∈ ps → m = .bits64
  only : rex.isSome = true → m = .bits64
  last : rex = none → ps.getLast? ≠ some .deadRex
  pending : pend.isSome = true → rex = none → ps ≠ []

theorem mem_flushRex {pend : Option (BitVec 4)} {x : Prefix} (h : x ∈ flushRex pend) : pend.isSome = true := by
  cases pend with
  | none => cases h
  | some v => rfl

theorem legacyByte_ne_deadRex (b : Byte) : legacyByte b ≠ some .deadRex := by
  revert b
  decide +kernel

/-- One byte more in front of what is scanned: what was pending is ignored, and `qs` stands for the byte. -/
theorem Scanned.cons {m : Mode} {pend next rex : Option (BitVec 4)} {b : Byte} {bs t : List Byte}
    {qs ps : List Prefix} (h : Scanned m next bs ps rex t) (only : pend.isSome = true → m = .bits64)
    (size : qs.length + next.isSome.toNat = 1) (dead : .deadRex ∉ qs) :
    Scanned m pend (b :: bs) (flushRex pend ++ (qs ++ ps)) rex t := by
  have ne : rex = none → qs ++ ps ≠ [] := fun none empty => by
    obtain ⟨rfl, rfl⟩ := List.append_eq_nil_iff.mp empty
    exact h.pending (by cases next <;> simp_all) none rfl
  refine ⟨?_, fun mem => ?_, h.only, fun none => ?_, fun _ none => List.append_ne_nil_of_right_ne_nil _ (ne none)⟩
  · have := h.length
    rw [List.length_cons, List.length_append, List.length_append, length_flushRex]
    omega
  · rcases List.mem_append.mp mem with mem | mem
    · exact only (mem_flushRex mem)
    · exact h.dead ((List.mem_append.mp mem).resolve_left dead)
  · rw [List.getLast?_append_of_ne_nil _ (ne none)]
    by_cases empty : ps = []
    · rw [empty, List.append_nil]
      exact fun last => dead (List.mem_of_getLast? last)
    · rw [List.getLast?_append_of_ne_nil _ empty]
      exact h.last none

theorem scanned {m : Mode} (bs : List Byte) (pend : Option (BitVec 4)) (only : pend.isSome = true → m = .bits64) :
    Scanned m pend bs (scanBytes m pend bs).1 (scanBytes m pend bs).2.1 (scanBytes m pend bs).2.2 := by
  induction bs generalizing pend with
  | nil => exact ⟨by simp [scanBytes], nofun, only, fun _ => by simp [scanBytes], fun some none => by
      obtain rfl : pend = .none := none
      cases some⟩
  | cons b bs ih =>
    cases rex : isRex m b
    · cases byte : legacyByte b with
      | none =>
        rw [scanBytes_stop (by rw [stopsScan, rex, byte]; rfl)]
        exact ⟨by simp, nofun, only, fun _ => by simp, fun some none => by
          obtain rfl : pend = .none := none
          cases some⟩
      | some x =>
        rw [scanBytes_legacy rex byte]
        exact (ih none nofun).cons (qs := [x]) only rfl fun dead =>
          legacyByte_ne_deadRex b (List.mem_singleton.mp dead ▸ byte)
    · have m64 : m = .bits64 := of_decide_eq_true (Bool.and_eq_true_iff.mp rex).1
      rw [scanBytes_rex rex]
      exact (ih (some _) fun _ => m64).cons (qs := []) only rfl nofun

/-- The bytes before the opcode are well formed and as many as they take (R90, R91, R95). -/
theorem scanBytes_ok {m : Mode} {bs t : List Byte} {ps : List Prefix} {rex : Option (BitVec 4)}
    (h : scanBytes m none bs = (ps, rex, t)) :
    Pfx.wf m ⟨ps, rex.isSome⟩ = true ∧ bs.length = Pfx.len ⟨ps, rex.isSome⟩ + t.length := by
  have all := scanned (m := m) bs none nofun
  rw [h] at all
  refine ⟨Pfx.wf_iff.mpr ⟨all.dead, all.only, fun none => all.last ?_⟩, ?_⟩
  · simpa using none
  · simpa [Pfx.len] using all.length

/-! ### Displacements and memory operands -/

section
variable {a : ASize} {x b ext : Bool} {mod : BitVec 2} {bs t : List Byte}

/-- A displacement that is read: one of its addressing size, none only for `mod` 00 (R99). -/
theorem takeDisp_ok {d : Disp} (h : takeDisp a mod bs = .ok (d, t)) :
    d.wf a = true ∧ (d = .none → mod = 0) ∧ bs.length = d.len + t.length := by
  unfold takeDisp at h
  split at h
  · cases h
    exact ⟨by cases a <;> rfl, fun _ => ‹_›, by simp [Disp.len]⟩
  split at h
  · split at h <;> cases h
    exact ⟨by cases a <;> rfl, nofun, by simp [Disp.len]; omega⟩
  split at h
  · rename_i narrow
    split at h <;> cases h
    exact ⟨by rw [narrow]; rfl, nofun, by simp [Disp.len]; omega⟩
  · rename_i wide
    split at h <;> cases h
    exact ⟨by rw [Disp.wf, if_neg wide]; rfl, nofun, by simp [Disp.len]; omega⟩

theorem Disp.wf32_of_wf {d : Disp} (wide : a ≠ .a16) (h : d.wf a = true) : d.wf32 = true := by
  rwa [Disp.wf, if_neg wide] at h

theorem low3_num4 : ∀ (e : Bool) (f : BitVec 3), low3 (num4 e f) = f := by decide

theorem num4_lt : ∀ (f : BitVec 3), (num4 false f).toNat < 8 := by decide

/-- A displacement is missing only where `mod` 00 has another meaning (R99, R101, R102). -/
theorem disp_allowed {d : Disp} {f k : BitVec 3} (none : d = .none → mod = 0) (other : ¬(mod = 0 ∧ f = k)) :
    (!(decide (f = k) && decide (d = .none))) = true := by
  by_cases empty : d = .none
  · have ne : f ≠ k := fun same => other ⟨none empty, same⟩
    simp [ne]
  · simp [empty]

/-- A register number made of an extension bit that is 0 where there may be none. -/
theorem num4_allowed {e : Bool} (zero : ext = false → e = false) (f : BitVec 3) :
    (ext || decide ((num4 e f).toNat < 8)) = true := by
  cases ext
  · exact decide_eq_true (zero rfl ▸ num4_lt f)
  · rfl

/-- A memory operand that is read, whose extension bits are 0 where it may have none (R97 to R102). -/
theorem takeMem_ok {rm : BitVec 3} {m : Mem} (h : takeMem a x b mod rm bs = .ok (m, t))
    (plain : ext = false → x = false ∧ b = false) :
    m.wf a ext = true ∧ 1 + bs.length = m.len + t.length := by
  rw [takeMem.eq_def] at h
  split at h
  · rename_i narrow
    subst narrow
    split at h
    · split at h <;> cases h
      exact ⟨rfl, by simp [Mem.len]; omega⟩
    · rename_i other
      obtain ⟨⟨d, u⟩, disp, h⟩ := bind_ok.mp h
      cases h
      obtain ⟨wf, none, len⟩ := takeDisp_ok disp
      have wf : d.wf16 = true := wf
      exact ⟨by simp only [Mem.wf, wf, disp_allowed none other]; rfl, by simp only [Mem.len]; omega⟩
  rename_i wide
  split at h
  · split at h
    · cases h
    split at h
    · split at h <;> cases h
      have index := num4_allowed fun no => (plain no).1
      exact ⟨by simp only [Mem.wf, decide_eq_true wide, index, Bool.true_and], by simp [Mem.len]; omega⟩
    · rename_i other
      obtain ⟨⟨d, u⟩, disp, h⟩ := bind_ok.mp h
      cases h
      obtain ⟨wf, none, len⟩ := takeDisp_ok disp
      refine ⟨?_, by simp only [Mem.len, List.length_cons]; omega⟩
      simp only [Mem.wf, low3_num4, decide_eq_true wide, Disp.wf32_of_wf wide wf, disp_allowed none other,
        Bool.or_and_distrib_left, num4_allowed fun no => (plain no).1, num4_allowed fun no => (plain no).2,
        Bool.and_self]
  rename_i noSib
  split at h
  · split at h <;> cases h
    exact ⟨decide_eq_true wide, by simp [Mem.len]; omega⟩
  · rename_i other
    obtain ⟨⟨d, u⟩, disp, h⟩ := bind_ok.mp h
    cases h
    obtain ⟨wf, none, len⟩ := takeDisp_ok disp
    refine ⟨?_, by simp only [Mem.len]; omega⟩
    simp only [Mem.wf, low3_num4, decide_eq_true wide, decide_eq_true noSib, Disp.wf32_of_wf wide wf,
      disp_allowed none other, num4_allowed fun no => (plain no).2, Bool.and_self]

theorem takeImm_ok {has : Bool} {i : Byte} (h : takeImm has bs = .ok (i, t)) :
    bs.length = has.toNat + t.length := by
  cases has with
  | true =>
    cases bs with
    | nil => cases h
    | cons b bs => cases h; exact Nat.add_comm _ _
  | false => cases h; exact (Nat.zero_add _).symm

/-- An operand that is read; a register number is below `top` (R97, R108, R119). -/
theorem takeRm_ok {hi : Bool} {top : Nat} {md : Byte} {o : Rm} (h : takeRm a hi x b md bs = .ok (o, t))
    (plain : ext = false → x = false ∧ b = false) (below : (num5 hi b (rmField md)).toNat < top) :
    o.wf a ext top = true ∧ 1 + bs.length = o.len + t.length ∧
      ∀ f : RmForm, f.ok md = true → f.holds o = true := by
  rw [takeRm] at h
  split at h
  · rename_i three
    cases h
    refine ⟨decide_eq_true below, rfl, fun f ok => ?_⟩
    cases f with
    | any | reg => rfl
    | mem => exact absurd three (of_decide_eq_true ok)
  · rename_i notThree
    obtain ⟨⟨m, u⟩, mem, h⟩ := bind_ok.mp h
    cases h
    obtain ⟨wf, len⟩ := takeMem_ok mem plain
    refine ⟨wf, len, fun f ok => ?_⟩
    cases f with
    | any | mem => rfl
    | reg => exact absurd (of_decide_eq_true ok) notThree

end

theorem num5_lt : ∀ (hi b : Bool) (f : BitVec 3), (num5 hi b f).toNat < 32 ∧
    (hi = false → (num5 hi b f).toNat < 16) ∧ (hi = false → b = false → (num5 hi b f).toNat < 8) := by decide

theorem num4_lt_sixteen : ∀ (e : Bool) (f : BitVec 3), (num4 e f).toNat < 16 := by decide

/-! ### Legacy -/

theorem takeOpcode_ok {bs opc t : List Byte} (h : takeOpcode bs = .ok (opc, t)) :
    bs.length = opc.length + t.length ∧ opc ≠ [] := by
  unfold takeOpcode at h
  split at h
  · cases h
  split at h
  · cases h
  split at h
  · cases h
  split at h
  · split at h <;> cases h
    exact ⟨by simp; omega, nofun⟩
  · cases h
    exact ⟨by simp; omega, nofun⟩

theorem rowImm_allowed (has : Bool) (imm : Byte) : (has || decide (rowImm has imm = 0)) = true := by
  cases has <;> rfl

/-- The row and the operands of a legacy instruction that is read after its opcode. -/
theorem legacyRest_ok {a : ASize} {p : Pfx} {rex : BitVec 4} {opc t u : List Byte} {i : Instr}
    (h : legacyRest a p rex opc t = .ok (i, u)) (plain : p.rex = false → rex = 0) :
    ∃ (l : LOp) (reg : BitVec 4) (rm : Rm) (imm : Byte), l.make p reg rm imm = some i ∧
      l.row.opens opc p (rex.getLsbD 3) = true ∧ (p.rex = false → reg.toNat < 8) ∧
      (l.row.rm.isSome = true → rm.wf a p.rex (if p.rex then 16 else 8) = true) ∧
      t.length = ((l.row.rm.map fun _ => rm).map Rm.len).getD 0 + l.row.imm.toNat + u.length := by
  rw [legacyRest] at h
  split at h
  · cases h
  rename_i notShort
  split at h
  · cases h
  rename_i l found
  have suits := List.find?_some (p := fun l : LOp => l.row.suits opc p (rex.getLsbD 3) t.head?) found
  have opens := LegacyRow.opens_of_suits suits
  split at h
  · rename_i f md v has
    obtain ⟨⟨rm, t1⟩, operand, h⟩ := bind_ok.mp h
    obtain ⟨⟨imm, t2⟩, immediate, h⟩ := bind_ok.mp h
    simp only at h
    split at h <;> cases h
    rename_i make
    have len := takeImm_ok immediate
    obtain ⟨wf, size, -⟩ := takeRm_ok (ext := p.rex) (top := if p.rex then 16 else 8) operand
      (fun no => by rw [plain no]; exact ⟨rfl, rfl⟩) (by
        cases rex : p.rex
        · rw [plain rex]
          exact (num5_lt _ _ _).2.2 rfl rfl
        · exact (num5_lt _ _ _).2.1 rfl)
    refine ⟨l, _, rm, imm, make, opens, fun no => ?_, fun _ => wf, ?_⟩
    · rw [plain no]
      exact num4_lt _
    · simp only [has, Option.map_some, Option.getD_some, List.length_cons]
      omega
  · rename_i other
    split at h <;> cases h
    rename_i make
    have noRm : l.row.rm = none := by
      cases has : l.row.rm with
      | none => rfl
      | some f =>
        cases u with
        | nil => simp [LegacyRow.suits, has] at suits
        | cons md v => exact (other f md v has rfl).elim
    exact ⟨l, 0, .reg 0, 0, make, opens, fun _ => by decide, fun has => absurd has (by simp [noRm]),
      by simp [noRm, LOp.imm_noRm noRm]⟩

/-- A legacy instruction that is read is well formed and has the length of its bytes. -/
theorem decodeLegacy_ok {m : Mode} {csD : Bool} {p : Pfx} {rex : BitVec 4} {t u : List Byte} {i : Instr}
    (h : decodeLegacy (addrSize m csD p) p rex t = .ok (i, u)) (pfx : p.wf m = true)
    (plain : p.rex = false → rex = 0) :
    i.form.wf m csD = true ∧ p.len + t.length = i.len + u.length ∧ 1 ≤ i.len := by
  rw [decodeLegacy_eq] at h
  obtain ⟨⟨opc, t'⟩, opcode, h⟩ := bind_ok.mp h
  obtain ⟨l, reg, rm, imm, make, opens, hreg, hrm, size⟩ := legacyRest_ok h plain
  obtain ⟨rfl, mand, w⟩ := LegacyRow.opens_iff.mp opens
  obtain ⟨total, ne⟩ := takeOpcode_ok opcode
  simp only at size
  have pos := List.length_pos_iff.mpr ne
  have small : (l.row.regOperand reg).toNat < if p.rex then 16 else 8 := by
    rw [LegacyRow.regOperand]
    cases hrex : p.rex
    · split
      · decide
      · exact hreg hrex
    · exact BitVec.isLt _
  have wRex : (decide (l.row.w ≠ some true) || p.rex) = true := by
    cases hrex : p.rex
    · rw [plain hrex] at w
      cases hw : l.row.w with
      | none => rfl
      | some v => cases v <;> simp [hw, wSuits] at w ⊢
    · exact Bool.or_true _
  refine ⟨?_, ?_, ?_⟩
  · rw [LOp.form_make make]
    simp only [Form.wf, Bool.and_eq_true, decide_eq_true_eq]
    refine ⟨⟨⟨⟨⟨pfx, mand⟩, wRex⟩, small⟩, ?_⟩, rowImm_allowed _ _⟩
    cases has : l.row.rm with
    | none => rfl
    | some f => exact hrm (by rw [has]; rfl)
  · rw [Instr.len, LOp.form_make make]
    simp only [Form.len]
    omega
  · rw [Instr.len, LOp.form_make make]
    simp only [Form.len]
    omega

/-! ### VEX -/

theorem top_bits_of_three : ∀ b : Byte, b.extractLsb' 6 2 = 3 → b.getLsbD 7 = true ∧ b.getLsbD 6 = true := by
  decide +kernel

theorem and_seven_lt : ∀ v : BitVec 4, (v &&& 7).toNat < 8 := by decide

/-- A VEX instruction that is read is well formed and has the length of its bytes. -/
theorem decodeVex_ok {m : Mode} {csD : Bool} {p : Pfx} {v1 : Byte} {t u : List Byte} {i : Instr}
    (h : decodeVex m (addrSize m csD p) p (v1 :: t) = .ok (i, u)) (pfx : p.wf m = true)
    (form : m = .bits64 ∨ v1.extractLsb' 6 2 = 3) :
    i.form.wf m csD = true ∧ p.len + (t.length + 2) = i.len + u.length ∧ 1 ≤ i.len := by
  have narrow (no : m ≠ .bits64) := top_bits_of_three v1 (form.resolve_left no)
  unfold decodeVex at h
  split at h
  case h_2 => cases h
  rename_i w1 v2 op t' bytes
  obtain ⟨rfl, rfl⟩ := List.cons_eq_cons.mp bytes
  split at h
  · cases h
  rename_i v found
  split at h
  · cases h
  rename_i md t2
  obtain ⟨⟨rm, t3⟩, operand, h⟩ := bind_ok.mp h
  obtain ⟨⟨imm, t4⟩, immediate, h⟩ := bind_ok.mp h
  simp only at h
  split at h <;> cases h
  rename_i make
  have len := takeImm_ok immediate
  obtain ⟨wf, size, -⟩ := takeRm_ok (ext := decide (m = .bits64)) (top := if m = .bits64 then 16 else 8) operand
    (fun no => by
      have no := of_decide_eq_false no
      rw [(narrow no).2, decide_eq_false no]
      exact ⟨rfl, rfl⟩)
    (by
      split <;> rename_i m64
      · exact (num5_lt _ _ _).2.1 rfl
      · rw [decide_eq_false m64]
        exact (num5_lt _ _ _).2.2 rfl rfl)
  refine ⟨?_, ?_, ?_⟩
  · rw [VOp.form_make make]
    simp only [Form.wf, Bool.and_eq_true, decide_eq_true_eq]
    refine ⟨⟨⟨⟨pfx, ?_⟩, ?_⟩, wf⟩, rowImm_allowed _ _⟩
    · split <;> rename_i m64
      · exact BitVec.isLt _
      · rw [(narrow m64).1]
        exact num4_lt _
    · split <;> rename_i m64
      · exact BitVec.isLt _
      · exact and_seven_lt _
  · rw [Instr.len, VOp.form_make make]
    simp only [Form.len, List.length_cons]
    omega
  · rw [Instr.len, VOp.form_make make]
    simp only [Form.len]
    omega

/-! ### EVEX -/

theorem plain_bits : ∀ b : Byte, b.extractLsb' 4 4 = 15 →
    b.getLsbD 7 = true ∧ b.getLsbD 6 = true ∧ b.getLsbD 5 = true ∧ b.getLsbD 4 = true := by decide +kernel

/-- What is made of the bytes of an EVEX form: outside 64-bit mode only plain extension bits (R119). -/
theorem evexMade_ok {m : Mode} {p : Pfx} {e : EvexSel} {p0 p1 p2 md : Byte} {rm : Rm} {imm : Byte}
    {t u : List Byte} {i : Instr} (h : evexMade m p e p0 p1 p2 md rm imm t = .ok (i, u)) :
    u = t ∧ ∃ vl o, e.make vl o imm = some i ∧ o.pfx = p ∧ o.rm = rm ∧
      (m ≠ .bits64 → p0.extractLsb' 4 4 = 15) ∧ (o.reg.toNat < if m = .bits64 then 32 else 8) ∧
      (o.vvvv.toNat < if m = .bits64 then 32 else 8) := by
  rw [evexMade] at h
  split at h
  · cases h
  simp only at h
  split at h
  · split at h <;> cases h
  rename_i vl _ allowed
  split at h <;> cases h
  rename_i make
  have plain (narrow : m ≠ .bits64) : p0.extractLsb' 4 4 = 15 ∧ (evexVvvv m e.row p1 p2).toNat < 8 := by
    by_contra other
    refine allowed ⟨narrow, fun both => other ⟨?_, both.2⟩⟩
    exact of_decide_eq_true (Bool.and_eq_true_iff.mp both.1).1
  refine ⟨rfl, vl, _, make, rfl, rfl, fun no => (plain no).1, ?_, ?_⟩
  · split <;> rename_i m64
    · exact BitVec.isLt _
    · obtain ⟨b7, -, -, b4⟩ := plain_bits p0 (plain m64).1
      rw [b7, b4]
      exact (num5_lt _ _ _).2.2 rfl rfl
  · split <;> rename_i m64
    · exact BitVec.isLt _
    · exact (plain m64).2

/-- An EVEX instruction that is read is well formed and has the length of its bytes. -/
theorem decodeEvex_ok {m : Mode} {csD : Bool} {p : Pfx} {bs u : List Byte} {i : Instr}
    (h : decodeEvex m (addrSize m csD p) p bs = .ok (i, u)) (pfx : p.wf m = true) :
    i.form.wf m csD = true ∧ p.len + (bs.length + 1) = i.len + u.length ∧ 1 ≤ i.len := by
  unfold decodeEvex at h
  split at h
  case h_2 => cases h
  rename_i p0 p1 p2 op t'
  split at h
  · cases h
  split at h
  · cases h
  rename_i md t2
  split at h
  · obtain ⟨_, _, h⟩ := bind_ok.mp h
    obtain ⟨_, _, h⟩ := bind_ok.mp h
    cases h
  split at h
  · cases h
  rename_i e found
  have suits := List.find?_some (p := fun e : EvexSel => e.row.suits p0 p1 op md) found
  obtain ⟨⟨rm, t3⟩, operand, h⟩ := bind_ok.mp h
  obtain ⟨⟨imm, t4⟩, immediate, h⟩ := bind_ok.mp h
  have h : evexMade m p e p0 p1 p2 md rm imm t4 = .ok (i, u) := h
  obtain ⟨rfl, vl, o, make, rfl, rfl, plain, hreg, hvvvv⟩ := evexMade_ok h
  have len := takeImm_ok immediate
  obtain ⟨wf, size, holds⟩ := takeRm_ok (ext := decide (m = .bits64)) (top := if m = .bits64 then 32 else 8) operand
    (fun no => by
      obtain ⟨-, b6, b5, -⟩ := plain_bits p0 (plain (of_decide_eq_false no))
      rw [b6, b5]
      exact ⟨rfl, rfl⟩)
    (by
      split <;> rename_i m64
      · exact (num5_lt _ _ _).1
      · obtain ⟨-, b6, b5, -⟩ := plain_bits p0 (plain m64)
        rw [b6, b5]
        exact (num5_lt _ _ _).2.2 rfl rfl)
  refine ⟨?_, ?_, ?_⟩
  · rw [EvexSel.form_make make]
    simp only [Form.wf, Bool.and_eq_true, decide_eq_true_eq]
    exact ⟨⟨⟨⟨⟨pfx, hreg⟩, hvvvv⟩, wf⟩, holds _ (Bool.and_eq_true_iff.mp suits).2⟩, rowImm_allowed _ _⟩
  · rw [Instr.len, EvexSel.form_make make]
    simp only [Form.len, List.length_cons]
    omega
  · rw [Instr.len, EvexSel.form_make make]
    simp only [Form.len]
    omega

/-! ### Every format -/

theorem decodeOpcode_ok {m : Mode} {csD : Bool} {p : Pfx} {rex : BitVec 4} {t u : List Byte} {i : Instr}
    (h : decodeOpcode m (addrSize m csD p) p rex t = .ok (i, u)) (pfx : p.wf m = true)
    (plain : p.rex = false → rex = 0) :
    i.form.wf m csD = true ∧ p.len + t.length = i.len + u.length ∧ 1 ≤ i.len := by
  unfold decodeOpcode at h
  split at h
  · split at h
    · cases h
    split at h
    · exact decodeVex_ok h pfx ‹_›
    · cases h
  · split at h
    · cases h
    split at h
    · exact decodeEvex_ok h pfx
    · cases h
  · exact decodeLegacy_ok h pfx plain

/-- Settles O2: the scan and each format answer only what is well formed, with the bytes it has. -/
theorem decodedIsWellFormed : Obligations.DecodedIsWellFormed := by
  intro m csD bs rest i h short
  obtain ⟨ps, rex, t, scan⟩ : ∃ ps rex t, scanBytes m none bs = (ps, rex, t) := ⟨_, _, _, rfl⟩
  obtain ⟨pfx, len⟩ := scanBytes_ok scan
  rw [decode_of_scan scan] at h
  obtain ⟨wf, size, pos⟩ := decodeOpcode_ok h pfx fun none => by
    cases rex with
    | none => rfl
    | some v => cases none
  have total : bs.length = i.len + rest.length := by omega
  exact ⟨Bool.and_eq_true_iff.mpr ⟨wf, decide_eq_true (by omega)⟩, total, pos⟩

end Sys2Proof
end

section
/-! PROOFS. Where no instruction runs (30_encoding.md section 6, 10_state.md section 2): what the decoder answers
for bytes that are no instruction, and what a step makes of it. -/

namespace Sys2Proof

/-! ### Reserved strings are read to their end -/

section
variable {a : ASize} {x b : Bool}

theorem takeDisp_total (mod : BitVec 2) {bs : List Byte} (room : 4 ≤ bs.length) :
    ∃ d t, takeDisp a mod bs = .ok (d, t) ∧ t.length ≤ bs.length ∧ bs.length ≤ t.length + 4 := by
  obtain _ | ⟨b0, _ | ⟨b1, _ | ⟨b2, _ | ⟨b3, t⟩⟩⟩⟩ := bs
  case cons.cons.cons.cons =>
    rw [takeDisp.eq_def]
    split
    · exact ⟨_, _, rfl, by simp, by simp⟩
    split
    · exact ⟨_, _, rfl, by simp, by simp⟩
    split
    · exact ⟨_, _, rfl, by simp, by simp⟩
    · exact ⟨_, _, rfl, by simp; omega, by simp⟩
  all_goals simp at room

theorem takeMem_total (mod : BitVec 2) (rm : BitVec 3) {bs : List Byte} (room : 5 ≤ bs.length) :
    ∃ m t, takeMem a x b mod rm bs = .ok (m, t) ∧ t.length ≤ bs.length ∧ bs.length ≤ t.length + 5 := by
  obtain ⟨d, t1, disp, le, ge⟩ := takeDisp_total (a := a) mod (bs := bs) (by omega)
  obtain _ | ⟨b0, bs⟩ := bs
  · simp at room
  obtain ⟨d', t2, disp', le', ge'⟩ := takeDisp_total (a := a) mod (bs := bs) (by simpa using room)
  obtain _ | ⟨b1, _ | ⟨b2, _ | ⟨b3, _ | ⟨b4, t⟩⟩⟩⟩ := bs
  case cons.cons.cons.cons =>
    simp only [List.length_cons] at le ge le' ge' ⊢
    rw [takeMem.eq_def, disp]
    split
    · split
      · exact ⟨_, _, rfl, by simp, by simp⟩
      · exact ⟨_, _, rfl, le, by omega⟩
    split
    · simp only [disp']
      split
      · exact ⟨_, _, rfl, by omega, by omega⟩
      · exact ⟨_, t2, rfl, by omega, by omega⟩
    split
    · exact ⟨_, _, rfl, by simp, by simp⟩
    · exact ⟨_, _, rfl, by omega, by omega⟩
  all_goals simp at room

theorem takeRm_total {hi : Bool} (md : Byte) {bs : List Byte} (room : 5 ≤ bs.length) :
    ∃ o t, takeRm a hi x b md bs = .ok (o, t) ∧ t.length ≤ bs.length ∧ bs.length ≤ t.length + 5 := by
  rw [takeRm]
  split
  · exact ⟨_, _, rfl, Nat.le_refl _, by omega⟩
  · obtain ⟨m, t, mem, le, ge⟩ := takeMem_total (a := a) (x := x) (b := b) (modField md) (rmField md) room
    rw [mem]
    exact ⟨_, _, rfl, le, ge⟩

theorem takeImm_total (has : Bool) {bs : List Byte} (room : 1 ≤ bs.length) :
    ∃ i t, takeImm has bs = .ok (i, t) ∧ t.length ≤ bs.length := by
  obtain _ | ⟨i, t⟩ := bs
  · simp at room
  cases has with
  | true => exact ⟨_, _, rfl, by simp⟩
  | false => exact ⟨_, _, rfl, Nat.le_refl _⟩

end

/-! ### Bytes that open no row -/

theorem decodeOpcode_outside {m : Mode} {a : ASize} {p : Pfx} {rex : BitVec 4} {b : Byte} (escape : b ≠ 0x0F)
    (vex : b ≠ 0xC4) (evex : b ≠ 0x62) (t : List Byte) :
    decodeOpcode m a p rex (b :: t) = .error .outside := by
  have opcode : takeOpcode (b :: t) = .error .outside := if_pos escape
  rw [decodeOpcode_legacy vex evex, decodeLegacy_eq, opcode]
  rfl

theorem decodeOpcode_vex_outside {m : Mode} {a : ASize} {p : Pfx} {rex : BitVec 4} {p0 p1 op : Byte}
    (none : ∀ v ∈ VOp.all, v.row.suits p0 p1 op = false) (t : List Byte) :
    decodeOpcode m a p rex (0xC4 :: p0 :: p1 :: op :: t) = .error .outside := by
  by_cases form : m = .bits64 ∨ p0.extractLsb' 6 2 = 3
  · have unfound : VOp.all.find? (fun v => v.row.suits p0 p1 op && v.hasLength (p1.getLsbD 2)) = .none :=
      List.find?_eq_none.mpr fun v mem => by simp [none v mem]
    rw [decodeOpcode_vex form]
    simp only [decodeVex, unfound]
  · exact if_neg form

section
variable {m : Mode} {a : ASize} {p : Pfx} {rex : BitVec 4} {p0 p1 p2 op : Byte} {u : List Byte}

theorem evexFixed_iff : evexFixed p0 p1 = true ↔ p0.extractLsb' 2 2 = 0 ∧ p1.getLsbD 2 = true := by
  rw [evexFixed, Bool.and_eq_true, decide_eq_true_eq]

theorem decodeOpcode_evex_outside (fixed : evexFixed p0 p1 = true)
    (none : ∀ e ∈ EvexSel.all, e.row.opens p0 p1 op = false) :
    decodeOpcode m a p rex (0x62 :: p0 :: p1 :: p2 :: op :: u) = .error .outside := by
  by_cases form : m = .bits64 ∨ p0.extractLsb' 6 2 = 3
  · have unopened : EvexSel.all.any (fun e => e.row.opens p0 p1 op) = false :=
      List.any_eq_false.mpr fun e mem => by simp [none e mem]
    rw [decodeOpcode_evex form]
    simp [decodeEvex, fixed, unopened]
  · exact if_neg form

/-! ### Reserved EVEX bytes -/

/-- Wrong fixed bits of P0 and P1 are #UD (R116). -/
theorem decodeEvex_fixed (fixed : evexFixed p0 p1 = false) (room : 8 ≤ u.length) :
    ∃ left, left ≤ u.length ∧ decodeEvex m a p (p0 :: p1 :: p2 :: op :: u) = .error (.ud left) := by
  obtain _ | ⟨md, t⟩ := u
  · simp at room
  rw [List.length_cons] at room
  obtain ⟨o, t1, operand, le, ge⟩ := takeRm_total (a := a) (hi := false) (x := false) (b := false) md
    (bs := t) (by omega)
  obtain ⟨i, t2, immediate, le'⟩ := takeImm_total (p0.extractLsb' 0 2 = 3) (bs := t1) (by omega)
  refine ⟨t2.length, by rw [List.length_cons]; omega, ?_⟩
  simp only [decodeEvex, fixed, Bool.false_and, if_neg Bool.false_ne_true, Bool.not_false, if_pos, operand]
  change takeImm _ t1 >>= _ = _
  rw [immediate]
  rfl

/-- `L'L` = 11 is #UD on a row (R118). -/
theorem decodeEvex_length {e : EvexSel} (fixed : evexFixed p0 p1 = true)
    (suits : e.row.suits p0 p1 op (u.headD 0) = true) (length : p2.extractLsb' 5 2 = 3) (room : 8 ≤ u.length) :
    ∃ left, left ≤ u.length ∧ decodeEvex m a p (p0 :: p1 :: p2 :: op :: u) = .error (.ud left) := by
  obtain _ | ⟨md, t⟩ := u
  · simp at room
  rw [List.length_cons] at room
  obtain ⟨o, t1, operand, le, ge⟩ := takeRm_total (a := a) (hi := !p0.getLsbD 6) (x := !p0.getLsbD 6)
    (b := !p0.getLsbD 5) md (bs := t) (by omega)
  obtain ⟨i, t2, immediate, le'⟩ := takeImm_total e.row.imm (bs := t1) (by omega)
  have made : evexMade m p e p0 p1 p2 md o i t2 = .error (.ud t2.length) := by
    rw [evexMade, length]
    rfl
  refine ⟨t2.length, by rw [List.length_cons]; omega, ?_⟩
  rw [List.headD_cons] at suits
  rw [decodeEvex_cons fixed suits, evexOperands, operand]
  change takeImm _ t1 >>= _ = _
  rw [immediate]
  exact made

end

/-- Every proper beginning of an instruction is too short (R90). -/
theorem decode_take_encode {m : Mode} {csD : Bool} {i : Instr} {n : Nat} (wf : i.form.wf m csD = true)
    (h : n < i.len) : decode m csD ((encode i).take n) = .error .short :=
  (decode_encode_reads wf).part n ((Form.bytes_length i.form).symm ▸ h)

end Sys2Proof

namespace Sys2Proof.Machine

/-! ### The step -/

/-- Bytes that end in an exception are executed like an instruction: in the range of RIP, and not stored by
the program (R24, R86, D4, D6). -/
theorem step_of_guarded_error {s t : State} {n : Nat} {e : Stop} (begun : s.beginStep = t)
    {o : Host.Outcome State Fault Refusal}
    (running : t.wait = .running) (he : e.outcome = o) (f : t.fetch = (do t.guardFetch n; .error e)) :
    (t.ripInRange (n - 1) = false → step s = .refused .ripRange) ∧
    (t.ripInRange (n - 1) = true → (∃ k, k < n ∧ t.fetchPlace k ∈ t.written) →
      step s = .refused .selfModified) ∧
    (t.ripInRange (n - 1) = true → (∀ k, k < n → t.fetchPlace k ∉ t.written) → step s = o) := by
  subst he
  refine ⟨fun outside => ?_, fun inside stored => ?_, fun inside unstored => ?_⟩
  · rw [State.guardFetch_ripRange outside, error_bind] at f
    exact step_of_fetch_error begun running f
  · rw [State.guardFetch_selfModified inside stored, error_bind] at f
    exact step_of_fetch_error begun running f
  · rw [State.guardFetch_ok (u := ()) |>.mpr ⟨inside, unstored⟩, ok_bind] at f
    exact step_of_fetch_error begun running f

/-- Settles O14: the clauses of the step by what `fetch` makes of the decoder's answer; those of the decoder by
the byte that ends its scan. -/
theorem decodeStops : Obligations.DecodeStops := by
  refine ⟨?_, ?_, fun _ _ _ _ wf h => decode_take_encode wf h⟩
  · intro s t begun running d guarded
    refine ⟨fun h => ?_, fun h => ?_, fun h => ?_, fun left h => ?_, fun i rest h => ?_⟩
    · exact step_of_fetch_error (e := .refuse .outsideSource) begun running
        (by rw [State.fetch, show decode t.mode t.segs.csD t.fetchBytes = _ from h])
    · exact step_of_fetch_error (e := .refuse .evexExtension) begun running
        (by rw [State.fetch, show decode t.mode t.segs.csD t.fetchBytes = _ from h])
    · exact step_of_guarded_error begun running (congrArg Stop.outcome t.gp_eq)
        (by rw [State.fetch, show decode t.mode t.segs.csD t.fetchBytes = _ from h])
    · exact step_of_guarded_error begun running (congrArg Stop.outcome t.ud_eq)
        (by rw [State.fetch, show decode t.mode t.segs.csD t.fetchBytes = _ from h])
    · have fetched := State.fetch_of_decode h
      refine ⟨fun outside => ?_, fun inside stored => ?_⟩
      · rw [State.guardFetch_ripRange outside, error_bind] at fetched
        exact step_of_fetch_error begun running fetched
      · rw [State.guardFetch_selfModified inside stored, error_bind] at fetched
        exact step_of_fetch_error begun running fetched
  · intro m csD p0 p1 p2 op u ps rex bs
    refine ⟨fun b scan escape vex evex => ?_, fun scan => ?_, fun scan none => ?_,
      fun scan => ⟨fun zero one none => ?_, fun form room => ⟨fun wrong => ?_, fun e _ zero one suits length => ?_⟩⟩⟩
    · rw [decode_of_scan scan, decodeOpcode_outside escape vex evex]
    · rw [decode_of_scan scan, decodeOpcode_nil]
    · rw [decode_of_scan scan, decodeOpcode_vex_outside none]
    · rw [decode_of_scan scan, decodeOpcode_evex_outside (evexFixed_iff.mpr ⟨zero, one⟩) none]
    · rw [decode_of_scan scan, decodeOpcode_evex form]
      refine decodeEvex_fixed ?_ room
      rw [← Bool.not_eq_true, evexFixed_iff, not_and_or, Bool.not_eq_true]
      exact wrong
    · rw [decode_of_scan scan, decodeOpcode_evex form]
      exact decodeEvex_length (evexFixed_iff.mpr ⟨zero, one⟩) suits length room

end Sys2Proof.Machine
end
